-- ==== Sys2Proof/Word.lean ====
section
/-! DEFINITION. The value types of the spec's notation (00_scope.md R15): `u8`, `u16`, and the two logical
levels of the discriminator line. -/
namespace Sys2Proof

/-- `u8` of R15: one word of the bus (R53), one byte of a buffer. -/
abbrev Byte := BitVec 8

/-- `u16` of R15: a pixel coordinate or a pitch (R73, R74). -/
abbrev HalfWord := BitVec 16

/-- A logical level of the discriminator line (R19, R26, R41): `low` is 0, command mode; `high` is 1, data mode. -/
inductive Level where
  | low
  | high
deriving DecidableEq, Repr

end Sys2Proof
end

