-- ==== Sys2Proof/Config.lean ====
section
/-! DEFINITION. What the instance fixes (the implementation parameters of 00_scope.md R8 to R13) as plain data, and
the free values: constants without a body, of which no proof can learn the value. -/
namespace Sys2Proof

/-- The settings of a chip-select control that is present (R11); the spec does not look inside them.
PRESUMED: one number stands for them (log 12). -/
structure ChipSelect where
  settings : Nat
deriving DecidableEq, Repr

/-- `BUS_BIT_ORDER` (R11, R51): the order of the bits of one word on the serial line. DESIGN CHOICE (log 22): the spec
leaves the order open and names no set of values (D11, N7); the parameter ranges over these two. -/
inductive BitOrder where
  | msbFirst
  | lsbFirst
deriving DecidableEq, Repr

/-- The operand `cfg` of `initialize` (R121): the collaborator names and pin (R12) and the bus mode (R11). -/
structure InstanceConfig where
  busName    : String
  dcGpioName : String
  dcPin      : Nat
  busCpol    : Bool
  busCpha    : Bool
  busCs      : Option ChipSelect
deriving DecidableEq, Repr

/-- The six opcode values of R9, each an open parameter (D1). -/
structure Opcodes where
  colAddr    : Byte
  rowAddr    : Byte
  remap      : Byte
  displayOn  : Byte
  displayOff : Byte
  contrast   : Byte
deriving DecidableEq, Repr

/-- Every implementation parameter (R8 to R13, R81). They are fixed for the machine: no step writes them (log 1). -/
structure Params where
  /-- `W`, the panel width in pixels (R8). -/
  width        : Nat
  /-- `H`, the panel height in pixels (R8). -/
  height       : Nat
  opcodes      : Opcodes
  /-- `REMAP_NPARAM` (R10, D2). -/
  remapNparam  : Nat
  /-- `ENC_DC_CHECKED` (R81, D5): is the result of a command-mode `GpioSet` checked? -/
  encDcChecked : Bool
  /-- `BUS_BIT_ORDER` (R11). -/
  bitOrder     : BitOrder
  /-- How many members the enumeration `PixelFormat` has besides `GRAY4` (R13, D30). -/
  otherFormats : Nat
  /-- The configuration of this instance, which its caller hands to `initialize` (R12, R121). -/
  inst         : InstanceConfig
deriving DecidableEq, Repr

/-- The six opcode values in one list. -/
def Opcodes.all (o : Opcodes) : List Byte :=
  [o.colAddr, o.rowAddr, o.remap, o.displayOn, o.displayOff, o.contrast]

/-- The constraints of R8 (geometry) and R71 (opcodes pairwise distinct). -/
abbrev Params.Valid (p : Params) : Prop :=
  p.width % 2 = 0 ∧ 2 ≤ p.width ∧ p.width ≤ 512 ∧ 1 ≤ p.height ∧ p.height ≤ 256 ∧ p.opcodes.all.Nodup

/-- One answer of the oracle (R14) to one collaborator call. `ok` is `Ok`, or `Some` of a handle with this token when
the call is a lookup; `err` is `Err`, or `None`; `never` is a call that does not return (R190, D24). -/
inductive Answer where
  | ok (token : Nat)
  | err
  | never
deriving DecidableEq, Repr, Inhabited

/-- FREE VALUE (log 3): the answer to collaborator call number `n`, where the state's script holds none. -/
opaque Config.freeAnswer : Nat → Answer

/-- FREE VALUE (log 11): byte `k` of a caller's buffer that holds no byte `k`, as read after `drawn` collaborator calls. -/
opaque Config.strayByte : (drawn k : Nat) → Byte

end Sys2Proof
end

