-- ==== Sys2Proof/Machine/Reference.lean ====
section
/-! DEFINITION. The reference instance: the parameters that `State.reset` and `decodeTableWord` take where their fixed
types leave no argument for them. Every other definition of the model takes the parameters from the state. -/
namespace Sys2Proof.Machine

/-- DESIGN CHOICE (log 2), unsafe for a claim about `State.reset` that reads it: the spec gives these six values to no
one (R9, D1, N2), so they are mere stand-ins, distinct as R71 asks, and of no known controller (G1 is not used). -/
def referenceOpcodes : Opcodes :=
  { colAddr := 0x01, rowAddr := 0x02, remap := 0x03, displayOn := 0x04, displayOff := 0x05, contrast := 0x06 }

/-- DESIGN CHOICE (log 2): names, pin and bus mode of R11 and R12, all open parameters (D11, D36). -/
def referenceInst : InstanceConfig :=
  { busName := "BUS_NAME", dcGpioName := "DC_GPIO_NAME", dcPin := 0, busCpol := false, busCpha := false, busCs := none }

/-- The instance of the source's worked scenario, W = 128 and H = 64 (R8, R114), with `ENC_DC_CHECKED` at its default
`false` (R81, D5). The rest is DESIGN CHOICE (log 2). -/
def referenceParams : Params :=
  { width := 128, height := 64, opcodes := referenceOpcodes, remapNparam := 0, encDcChecked := false
    bitOrder := .msbFirst, otherFormats := 1, inst := referenceInst }

end Sys2Proof.Machine
end

