-- ==== Sys2Proof/Syntax.lean ====
section
/-! DEFINITION. The instructions: one constructor per row of spec/opcode_table.json, and the two forms in which a
request for one is written (30_encoding.md: bytes on the wire, R60; a host call by name, R73). -/
namespace Sys2Proof

/-- `PixelFormat` (R13, D30): a finite enumeration that holds `GRAY4`. `other k` is its k-th further member; how many
there are is the parameter `Params.otherFormats`. -/
inductive PixelFormat where
  | gray4
  | other (k : Nat)
deriving DecidableEq, Repr

/-- An argument of a host call. The operations whose argument is 'any' (R73) take a list of these (log 10). -/
inductive Arg where
  | num (n : Nat)
  | word (w : String)
  | bytes (bs : List Byte)
  | format (f : PixelFormat)
  | config (c : InstanceConfig)
  | absent
deriving DecidableEq, Repr

/-- `WriteRegion` (R74). `buf = none` is a null buffer (R126); `pitch` is in pixels (90_conflicts.md C1). -/
structure WriteRegion where
  buf     : Option (List Byte)
  bufSize : Nat
  pitch   : Option HalfWord
deriving DecidableEq, Repr

/-- Every row of spec/opcode_table.json: seven wire rows (R61 to R67), eleven host operations (R73). -/
inductive Instr where
  /-- COL_ADDR, R61, R85. -/
  | colAddr (colStart colEnd : Byte)
  /-- ROW_ADDR, R62, R86. -/
  | rowAddr (rowStart rowEnd : Byte)
  /-- REMAP, R66, R90. -/
  | remap (p : List Byte)
  /-- DISPLAY_ON, R64, R88. -/
  | displayOn
  /-- DISPLAY_OFF, R65, R89. -/
  | displayOff
  /-- CONTRAST, R63, R87. -/
  | contrast (value : Byte)
  /-- DATA, R67, R91. -/
  | data (payload : List Byte)
  /-- initialize, R121. -/
  | initDevice (cfg : InstanceConfig)
  /-- unblank, R123. -/
  | unblank
  /-- blank, R124. -/
  | blank
  /-- write, R127. -/
  | write (x y : HalfWord) (region : WriteRegion)
  /-- read, R134. -/
  | read (args : List Arg)
  /-- get_framebuffer, R135. -/
  | getFramebuffer
  /-- set_brightness, R136. -/
  | setBrightness (args : List Arg)
  /-- set_contrast, R131. -/
  | setContrast (value : Byte)
  /-- get_capabilities, R133. -/
  | getCapabilities
  /-- set_pixel_format, R132. -/
  | setPixelFormat (format : PixelFormat)
  /-- set_orientation, R137. -/
  | setOrientation (args : List Arg)
deriving DecidableEq, Repr

/-- A host call as the host interface takes it: an operation selected by name, and its arguments (R73).
DESIGN CHOICE: the order and kind of the arguments (log 9). -/
structure Call where
  op   : String
  args : List Arg
deriving DecidableEq, Repr

/-- The encoded form of an instruction: a host call (no bit encoding, R73), or the bytes of one wire command
(`wire .low`, R60) or of one payload (`wire .high`, R67), told apart by the discriminator level (R69). -/
inductive Body where
  | call (c : Call)
  | wire (level : Level) (bytes : List Byte)
deriving DecidableEq, Repr

end Sys2Proof
end

