-- ==== Sys2Proof/WellFormed.lean ====
section
/-! DEFINITION. Which terms of `Instr` are instructions of the instance with parameters `p`: the restrictions the spec
puts on an operand that its type does not already say. -/
namespace Sys2Proof

/-- R90/R10: REMAP carries `REMAP_NPARAM` bytes. R91: DATA carries at least one byte. R12/R121: the configuration handed
to `initialize` is the instance's own (log 9). R13: a pixel format is a member of the enumeration. A null or empty
buffer is no ill-formed `write`: R126 says what the block does with it. -/
def wellFormed (p : Params) : Instr → Bool
  | .colAddr _ _ => true
  | .rowAddr _ _ => true
  | .remap ps => ps.length == p.remapNparam
  | .displayOn => true
  | .displayOff => true
  | .contrast _ => true
  | .data payload => !payload.isEmpty
  | .initDevice cfg => cfg == p.inst
  | .unblank => true
  | .blank => true
  | .write _ _ _ => true
  | .read _ => true
  | .getFramebuffer => true
  | .setBrightness _ => true
  | .setContrast _ => true
  | .getCapabilities => true
  | .setPixelFormat .gray4 => true
  | .setPixelFormat (.other k) => decide (k < p.otherFormats)
  | .setOrientation _ => true

end Sys2Proof
end

