-- ==== Sys2Proof/Decode.lean ====
section
/-! DEFINITION. The decoder, total on any request, and the encoder (30_encoding.md). Wire bytes: R60 to R72. Host calls: R73. -/
namespace Sys2Proof

/-- Why a request is no instruction, or a trace no list of commands. -/
inductive DecodeError where
  /-- R70 `UndecodableOpcode`: this byte in opcode position is none of the six opcodes (D37). -/
  | undecodableOpcode (b : Byte)
  /-- R70 `TruncatedCommand`: fewer bytes than `1 + NPARAM(opcode)`. -/
  | truncatedCommand
  /-- A request on the command level that holds no byte: there is no opcode (R60). -/
  | noOpcode
  /-- A request for one command that goes on after it (R69). -/
  | trailingBytes
  /-- A payload without bytes (R91: `len(bytes) >= 1`). -/
  | emptyPayload
  /-- R70, last paragraph: a transfer with `dc = Unknown` or `ans = Err` is not decodable. -/
  | undecodableTransfer
  /-- A host call by a name that R73 does not list. -/
  | unknownOperation (op : String)
  /-- A host call whose arguments are not those R73 gives the operation. -/
  | badArguments (op : String)
  /-- `initialize` with a configuration that is not this instance's (R12). -/
  | foreignConfig
  /-- `set_pixel_format` with a value outside the enumeration `PixelFormat` (R13). -/
  | unknownFormat
deriving DecidableEq, Repr

/-- The six wire commands by name (R2). -/
inductive Opcode where
  | colAddr
  | rowAddr
  | remap
  | displayOn
  | displayOff
  | contrast
deriving DecidableEq, Repr

/-- The byte of an opcode (R9). -/
def Opcode.value (o : Opcodes) : Opcode → Byte
  | .colAddr => o.colAddr
  | .rowAddr => o.rowAddr
  | .remap => o.remap
  | .displayOn => o.displayOn
  | .displayOff => o.displayOff
  | .contrast => o.contrast

/-- `NPARAM` (R10, R69): how many parameter bytes follow an opcode. -/
def nparam (p : Params) : Opcode → Nat
  | .colAddr => 2
  | .rowAddr => 2
  | .remap => p.remapNparam
  | .displayOn => 0
  | .displayOff => 0
  | .contrast => 1

/-- The opcode a byte in opcode position stands for (R70); one at most, since the six are distinct (R71). -/
def opcodeOf (o : Opcodes) (b : Byte) : Option Opcode :=
  if b = o.colAddr then some .colAddr
  else if b = o.rowAddr then some .rowAddr
  else if b = o.remap then some .remap
  else if b = o.displayOn then some .displayOn
  else if b = o.displayOff then some .displayOff
  else if b = o.contrast then some .contrast
  else none

/-- The command of an opcode from the bytes after it, and the bytes after the command (R69, R70). -/
def takeCommand (p : Params) : Opcode → List Byte → Except DecodeError (Instr × List Byte)
  | .colAddr, s :: e :: rest => .ok (.colAddr s e, rest)
  | .colAddr, _ => .error .truncatedCommand
  | .rowAddr, s :: e :: rest => .ok (.rowAddr s e, rest)
  | .rowAddr, _ => .error .truncatedCommand
  | .remap, rest =>
    if rest.length < p.remapNparam then .error .truncatedCommand
    else .ok (.remap (rest.take p.remapNparam), rest.drop p.remapNparam)
  | .displayOn, rest => .ok (.displayOn, rest)
  | .displayOff, rest => .ok (.displayOff, rest)
  | .contrast, v :: rest => .ok (.contrast v, rest)
  | .contrast, [] => .error .truncatedCommand

/-- One turn of the loop of R70: the first command of a command-mode stream, and the bytes after it. -/
def decodeCommand (p : Params) : List Byte → Except DecodeError (Instr × List Byte)
  | [] => .error .noOpcode
  | opc :: rest =>
    match opcodeOf p.opcodes opc with
    | none => .error (.undecodableOpcode opc)
    | some o => takeCommand p o rest

/-- The loop of R70, with `fuel` at least the number of bytes: every turn takes one byte or more. -/
def decodeStreamFuel (p : Params) : Nat → List Byte → Except DecodeError (List Instr)
  | _, [] => .ok []
  | 0, _ :: _ => .error .truncatedCommand
  | fuel + 1, b :: bs =>
    match decodeCommand p (b :: bs) with
    | .error e => .error e
    | .ok (i, rest) =>
      match decodeStreamFuel p fuel rest with
      | .error e => .error e
      | .ok is => .ok (i :: is)

/-- R70: a command-mode stream as the commands it holds. -/
def decodeStream (p : Params) (stream : List Byte) : Except DecodeError (List Instr) :=
  decodeStreamFuel p stream.length stream

/-- A number that fits `u8` (R73). -/
def byteArg (n : Nat) : Option Byte :=
  if n < 2 ^ 8 then some (BitVec.ofNat 8 n) else none

/-- A number that fits `u16` (R73, D12). -/
def halfArg (n : Nat) : Option HalfWord :=
  if n < 2 ^ 16 then some (BitVec.ofNat 16 n) else none

/-- The buffer argument of `write` (R74): bytes, or none for a null buffer. -/
def bufArg : Arg → Option (Option (List Byte))
  | .bytes bs => some (some bs)
  | .absent => some none
  | _ => none

/-- The pitch argument of `write` (R74): a `u16`, or none. -/
def pitchArg : Arg → Option (Option HalfWord)
  | .num n => (halfArg n).map some
  | .absent => some none
  | _ => none

/-- The operands of `write` from its five arguments x, y, buf, buf_size, pitch (R73, R74). -/
def decodeWrite (x y : Nat) (buf : Arg) (size : Nat) (pitch : Arg) : Option Instr :=
  match halfArg x, halfArg y, bufArg buf, pitchArg pitch with
  | some x, some y, some buf, some pitch => some (.write x y { buf := buf, bufSize := size, pitch := pitch })
  | _, _, _, _ => none

/-- A host call as an instruction (R73): selected by name, with the arguments of that operation. -/
def decodeCall (p : Params) (c : Call) : Except DecodeError Instr :=
  match c.op, c.args with
  | "initialize", [.config cfg] => if cfg = p.inst then .ok (.initDevice cfg) else .error .foreignConfig
  | "unblank", [] => .ok .unblank
  | "blank", [] => .ok .blank
  | "write", [.num x, .num y, buf, .num size, pitch] =>
    match decodeWrite x y buf size pitch with
    | some i => .ok i
    | none => .error (.badArguments "write")
  | "read", args => .ok (.read args)
  | "get_framebuffer", [] => .ok .getFramebuffer
  | "set_brightness", args => .ok (.setBrightness args)
  | "set_contrast", [.num v] =>
    match byteArg v with
    | some v => .ok (.setContrast v)
    | none => .error (.badArguments "set_contrast")
  | "get_capabilities", [] => .ok .getCapabilities
  | "set_pixel_format", [.format f] =>
    if wellFormed p (.setPixelFormat f) then .ok (.setPixelFormat f) else .error .unknownFormat
  | "set_orientation", args => .ok (.setOrientation args)
  | op, _ =>
    if op ∈ ["initialize", "unblank", "blank", "write", "get_framebuffer", "set_contrast", "get_capabilities",
        "set_pixel_format"]
    then .error (.badArguments op) else .error (.unknownOperation op)

/-- The instruction a request stands for. A request for a wire command holds exactly one (R69). -/
def decode (p : Params) : Body → Except DecodeError Instr
  | .call c => decodeCall p c
  | .wire .low bytes =>
    match decodeCommand p bytes with
    | .error e => .error e
    | .ok (i, []) => .ok i
    | .ok (_, _ :: _) => .error .trailingBytes
  | .wire .high [] => .error .emptyPayload
  | .wire .high (b :: bs) => .ok (.data (b :: bs))

/-- The buffer argument a region is called with (R74). -/
def bufToArg : Option (List Byte) → Arg
  | some bs => .bytes bs
  | none => .absent

/-- The pitch argument a region is called with (R74). -/
def pitchToArg : Option HalfWord → Arg
  | some n => .num n.toNat
  | none => .absent

/-- The encoder, from the tables of R60 to R67 (bytes) and R73 (calls). -/
def encode (p : Params) : Instr → Body
  | .colAddr s e => .wire .low [p.opcodes.colAddr, s, e]
  | .rowAddr s e => .wire .low [p.opcodes.rowAddr, s, e]
  | .remap ps => .wire .low (p.opcodes.remap :: ps)
  | .displayOn => .wire .low [p.opcodes.displayOn]
  | .displayOff => .wire .low [p.opcodes.displayOff]
  | .contrast v => .wire .low [p.opcodes.contrast, v]
  | .data payload => .wire .high payload
  | .initDevice cfg => .call { op := "initialize", args := [.config cfg] }
  | .unblank => .call { op := "unblank", args := [] }
  | .blank => .call { op := "blank", args := [] }
  | .write x y r =>
    .call { op := "write", args := [.num x.toNat, .num y.toNat, bufToArg r.buf, .num r.bufSize, pitchToArg r.pitch] }
  | .read args => .call { op := "read", args := args }
  | .getFramebuffer => .call { op := "get_framebuffer", args := [] }
  | .setBrightness args => .call { op := "set_brightness", args := args }
  | .setContrast v => .call { op := "set_contrast", args := [.num v.toNat] }
  | .getCapabilities => .call { op := "get_capabilities", args := [] }
  | .setPixelFormat f => .call { op := "set_pixel_format", args := [.format f] }
  | .setOrientation args => .call { op := "set_orientation", args := args }

/-- The bytes of a table word, bit 0 the lowest bit of the first byte (log 13). -/
def tableBytes (nbits w : Nat) : List Byte :=
  (List.range (nbits / 8)).map fun k => BitVec.ofNat 8 (w / 2 ^ (8 * k))

/-- A table word as the bytes of one command: its own, and zeros up to the length of the command (log 13). -/
def tableCommand (p : Params) (nbits w : Nat) : List Byte :=
  let bs := tableBytes nbits w
  let len := match (bs.head?).bind (opcodeOf p.opcodes) with
    | some o => 1 + nparam p o
    | none => 0
  bs ++ List.replicate (len - bs.length) 0

/-- The instruction the decoder reads from a table word, for the reference instance (log 13). -/
def decodeTableWord (nbits w : Nat) : Option Instr :=
  match decode Machine.referenceParams (.wire .low (tableCommand Machine.referenceParams nbits w)) with
  | .ok i => some i
  | .error _ => none

end Sys2Proof
end

