-- ==== Sys2Proof/Machine/State.lean ====
section
/-! DEFINITION. The state of the block (10_state.md), its reset (70_reset_and_hazards.md R180), and the reasons a step can stop. -/
namespace Sys2Proof.Machine

/-- `life` (R22). -/
inductive Life where
  | uninitialized
  | initialized
deriving DecidableEq, Repr

/-- A handle (R23): an opaque token, which the block only passes back to its collaborator. -/
structure Handle where
  token : Nat
deriving DecidableEq, Repr

/-- The line mode of the bus (R11, R24): the spec has one. -/
inductive LineMode where
  | single
deriving DecidableEq, Repr

/-- `BusConfig` (R24). -/
structure BusConfig where
  cpol     : Bool
  cpha     : Bool
  wordBits : Nat
  lines    : LineMode
  cs       : Option ChipSelect
deriving DecidableEq, Repr

/-- `dc` (R26): the logical level last driven on the discriminator line. -/
inductive Dc where
  | cmd
  | data
  | unknown
deriving DecidableEq, Repr

/-- `display_on` (R28): On is Active, Off is Blanked. -/
inductive Display where
  | on
  | off
  | unknown
deriving DecidableEq, Repr

/-- What a bus or GPIO call answered (R17): `Ok | Err`. -/
inductive Reply where
  | ok
  | err
deriving DecidableEq, Repr

/-- An event of the wire trace (R45); `found` of a lookup is true for `Some`. -/
inductive Event where
  | setDC (level : Level) (ans : Reply)
  | xfer (dc : Dc) (bytes : List Byte) (ans : Reply)
  | cfgOut (ans : Reply)
  | getBus (name : String) (found : Bool)
  | getGpio (name : String) (found : Bool)
deriving DecidableEq, Repr

/-- The error kinds (R160). -/
inductive ErrorKind where
  | ioError
  | initError
  | unsupportedFormat
  | unsupported
deriving DecidableEq, Repr

/-- `screen_info` of the capability descriptor (R133): the one value the spec has. -/
inductive ScreenInfo where
  | monoMsbFirst
deriving DecidableEq, Repr

/-- `current_orientation` of the capability descriptor (R133): the one value the spec has. -/
inductive Orientation where
  | normal
deriving DecidableEq, Repr

/-- The capability descriptor (R133). -/
structure Capabilities where
  xResolution           : Nat
  yResolution           : Nat
  supportedPixelFormats : List PixelFormat
  currentPixelFormat    : PixelFormat
  screenInfo            : ScreenInfo
  currentOrientation    : Orientation
deriving DecidableEq, Repr

/-- The result an operation hands its caller (R18, R73). -/
inductive Result where
  | ok
  | err (k : ErrorKind)
  | caps (c : Capabilities)
deriving DecidableEq, Repr

/-- Why a call is refused (R166). -/
inductive RefuseReason where
  | notInitialized
  | alreadyInitialized
  | emptyBuffer
  | windowOutOfRange
  | concurrentCall
deriving DecidableEq, Repr

/-- How one call ended: with a result, or refused. The model's own record (log 6). -/
inductive CallEnd where
  | returned (r : Result)
  | refused (why : RefuseReason)
deriving DecidableEq, Repr

/-- The oracle of R14 as data: the answers to the collaborator calls to come, first call first, and how many calls have
been answered. Past the script the answers are free (log 3). -/
structure Oracle where
  script : List Answer
  drawn  : Nat
deriving DecidableEq, Repr

/-- A call of the host that waits to be taken up (log 7): a host operation, never a wire command (R80). `overlaps`: it was
made while the call before it was still in progress (R168, log 8). -/
structure Request where
  overlaps : Bool
  call     : Call
deriving DecidableEq, Repr

/-- One wire command or payload that is to run by itself: its bytes and the level they belong to (log 14). -/
structure BenchWord where
  level : Level
  bytes : List Byte
deriving DecidableEq, Repr

/-- The state: the ten fields of R20, then the model's own five (INVENTORY.md, log 1, 3, 6, 7, 14). `bench` is not the
block's: neither the host nor a step can place a word there (R80). -/
structure State where
  life      : Life
  bus       : Option Handle
  gpio      : Option Handle
  busCfg    : Option BusConfig
  dcOut     : Bool
  dc        : Dc
  contrast  : Option Byte
  displayOn : Display
  trace     : List Event
  refused   : Bool
  params    : Params
  oracle    : Oracle
  inbox     : List Request
  bench     : Option BenchWord
  ends      : List CallEnd
deriving DecidableEq, Repr

/-- Why the machine stops. -/
inductive Fault where
  /-- Raised by every operation that calls a collaborator, when the call never returns: the block is stuck inside the
  operation (R190, D24, I7). Safe: no claim about a next state is provable of such a call (log 4). -/
  | collaboratorNeverReturns
deriving DecidableEq, Repr

/-- Why the model gives a request no meaning. -/
inductive Refusal where
  /-- Raised by `exec` alone, for an instruction whose meaning is not written. Safe. -/
  | notModelled (mnemonic : String)
  /-- Raised by `step` alone, when the request it takes is no instruction: command bytes that the decoder of R70 refuses
  (R72, D37), or a host call that is none of R73, where the stop is the model's choice (log 9). Safe. -/
  | undecodable (why : DecodeError)
deriving DecidableEq, Repr

/-- Every field at its reset value (R20, R180), for any parameters and any oracle (D22, D35). -/
def State.resetWith (p : Params) (o : Oracle) : State :=
  { life := .uninitialized
    bus := none
    gpio := none
    busCfg := none
    dcOut := false
    dc := .unknown
    contrast := none
    displayOn := .unknown
    trace := []
    refused := false
    params := p
    oracle := o
    inbox := []
    bench := none
    ends := [] }

/-- The machine right after reset (R180), for the reference instance (log 2), with no answer scripted (log 3), no call
pending (log 7) and an empty bench (log 14). -/
def State.reset : State :=
  State.resetWith referenceParams { script := [], drawn := 0 }

end Sys2Proof.Machine
end

