-- ==== Sys2Proof/Machine/Flags.lean ====
section
/-! DEFINITION. The status-like fields (R34): the lifecycle gate, the refusal mark, the Blanked/Active flag and the
contrast record. The block has no condition codes. -/
namespace Sys2Proof.Machine

/-- `refuse <reason>` (R18, R31, R166): the mark is set and nothing else of the block changes; `ends` notes the reason. -/
def State.refuse (why : RefuseReason) (s : State) : State :=
  { s with refused := true, ends := s.ends ++ [.refused why] }

/-- `s.display_on <- d` (R28). -/
def State.setDisplay (d : Display) (s : State) : State :=
  { s with displayOn := d }

/-- `s.contrast <- Some(v)` (R27). -/
def State.setContrast (v : Byte) (s : State) : State :=
  { s with contrast := some v }

/-- The fields a successful `initialize` writes (R121). -/
def State.acquire (b g : Handle) (c : BusConfig) (s : State) : State :=
  { s with bus := some b, gpio := some g, busCfg := some c, dcOut := true, life := .initialized }

/-- The gate of every operation that uses the bus (R120): refused before `initialize` has succeeded. -/
def whenInitialized (s : State) (go : Host.Outcome State Fault Refusal) : Host.Outcome State Fault Refusal :=
  match s.life with
  | .initialized => go
  | .uninitialized => .next (s.refuse .notInitialized)

end Sys2Proof.Machine
end

