-- ==== Sys2Proof/Machine/Operands.lean ====
section
/-! DEFINITION. The operand forms: the Addressing Translator (41_addressing_translator.md), the window bytes (R68) and the
caller's buffer (R50). -/
namespace Sys2Proof.Machine

/-- AddressWindow (R19): columns in column bytes, rows in pixel rows. Over the integers, since R100 can give -1. -/
structure Window where
  colStart : Int
  colEnd   : Int
  rowStart : Int
  rowEnd   : Int
deriving DecidableEq, Repr

/-- `LAST_COL` (R8): the rightmost column byte of the panel. -/
def lastCol (p : Params) : Int :=
  ((p.width / 2 : Nat) : Int) - 1

/-- `LAST_ROW` (R8): the bottom row of the panel. -/
def lastRow (p : Params) : Int :=
  (p.height : Int) - 1

/-- The column end of R104, from the column start `x / 2`; an absent pitch is a pitch of 0 (D14). -/
def colEndOf (p : Params) (x : HalfWord) (pitch : Option HalfWord) : Int :=
  match pitch with
  | none => lastCol p
  | some n =>
    if 0 < n.toNat ∧ n.toNat < p.width then ((x.toNat / 2 + n.toNat / 2 : Nat) : Int) - 1 else lastCol p

/-- `compute_window(x, y, pitch)` (R100). -/
def computeWindow (p : Params) (x y : HalfWord) (pitch : Option HalfWord) : Window :=
  { colStart := ((x.toNat / 2 : Nat) : Int)
    colEnd := colEndOf p x pitch
    rowStart := (y.toNat : Int)
    rowEnd := lastRow p }

/-- `in_range` (R108). -/
abbrev inRange (p : Params) (w : Window) : Prop :=
  0 ≤ w.colStart ∧ w.colStart ≤ lastCol p ∧ 0 ≤ w.colEnd ∧ w.colEnd ≤ lastCol p ∧
    0 ≤ w.rowStart ∧ w.rowStart ≤ lastRow p ∧ w.rowEnd = lastRow p

/-- A window value as its parameter byte (R68): bits 7 to 0, equal to the value where it is in range. -/
def windowByte (v : Int) : Byte :=
  BitVec.ofInt 8 v

/-- The parameter bytes of ROW_ADDR (R62): start first, then end (D3). -/
def rowParams (w : Window) : List Byte :=
  [windowByte w.rowStart, windowByte w.rowEnd]

/-- The parameter bytes of COL_ADDR (R61): start first, then end (D3). -/
def colParams (w : Window) : List Byte :=
  [windowByte w.colStart, windowByte w.colEnd]

/-- `MemRead(buf, n)` (R16, R50), made after `drawn` collaborator calls. A byte that the buffer does not hold is free
(log 11). -/
def memRead (drawn : Nat) (buf : List Byte) (n : Nat) : List Byte :=
  (List.range n).map fun k => (buf[k]?).getD (Config.strayByte drawn k)

end Sys2Proof.Machine
end

