-- ==== Sys2Proof/Machine/Ops.lean ====
section
/-! DEFINITION. The shared operations: the collaborator primitives (20_memory.md R46 to R49), the Command Encoder's
`send` (40_command_encoder.md R81) and `send_data` (R91), and how an operation hands back its result. The block has no
traps (R163): `State.ret` of an error kind is all that an error does. -/
namespace Sys2Proof.Machine

/-- What the oracle answers to the k-th collaborator call from now on (R14, log 3). -/
def Oracle.answer (o : Oracle) (k : Nat) : Answer :=
  match o.script[k]? with
  | some a => a
  | none => Config.freeAnswer (o.drawn + k)

/-- The oracle after `n` answers. -/
def Oracle.advance (o : Oracle) (n : Nat) : Oracle :=
  { script := o.script.drop n, drawn := o.drawn + n }

/-- An answer to a call that gives `Ok | Err` (R17); none: it never comes. -/
def replyOf : Answer → Option Reply
  | .ok _ => some .ok
  | .err => some .err
  | .never => none

/-- An answer to a lookup, which gives `Some(h) | None` (R17); none: it never comes. -/
def lookupOf : Answer → Option (Option Handle)
  | .ok token => some (some { token := token })
  | .err => some none
  | .never => none

/-- One collaborator call has come back: its answer is drawn and its event appended (R45, R54). -/
def State.called (e : Event) (s : State) : State :=
  { s with trace := s.trace ++ [e], oracle := s.oracle.advance 1 }

/-- The level last driven on the discriminator line (R26). -/
def State.drive (d : Dc) (s : State) : State :=
  { s with dc := d }

/-- The call ends and hands `r` to its caller (R18, R163). -/
def State.ret (r : Result) (s : State) : State :=
  { s with ends := s.ends ++ [.returned r] }

/-- `s.dc` after `GpioSet(level)` answered (R46). -/
def dcAfter (level : Level) : Reply → Dc
  | .ok =>
    match level with
    | .low => .cmd
    | .high => .data
  | .err => .unknown

/-- `GpioSet(level)` (R46). Here and below `none` means that the call never returns. -/
def gpioSet (level : Level) (s : State) : Option (Reply × State) :=
  (replyOf (s.oracle.answer 0)).map fun ans => (ans, (s.called (.setDC level ans)).drive (dcAfter level ans))

/-- `BusTransfer(bytes)` (R47). -/
def busTransfer (bytes : List Byte) (s : State) : Option (Reply × State) :=
  (replyOf (s.oracle.answer 0)).map fun ans => (ans, s.called (.xfer s.dc bytes ans))

/-- `GpioConfigureOutput()` (R48). -/
def gpioConfigureOutput (s : State) : Option (Reply × State) :=
  (replyOf (s.oracle.answer 0)).map fun ans => (ans, s.called (.cfgOut ans))

/-- `GetBusHandle(name)` (R49). -/
def getBusHandle (name : String) (s : State) : Option (Option Handle × State) :=
  (lookupOf (s.oracle.answer 0)).map fun found => (found, s.called (.getBus name found.isSome))

/-- `GetGpioHandle(name)` (R49). -/
def getGpioHandle (name : String) (s : State) : Option (Option Handle × State) :=
  (lookupOf (s.oracle.answer 0)).map fun found => (found, s.called (.getGpio name found.isSome))

/-- `send(opc, params)` (R81): DC to command mode, the opcode transfer, then one transfer of the parameters if there are
any. The first failing transfer ends it; a failed `GpioSet` ends it only if `ENC_DC_CHECKED`. `err` is `Err(IoError)`. -/
def send (opc : Byte) (params : List Byte) (s : State) : Option (Reply × State) :=
  match gpioSet .low s with
  | none => none
  | some (g, s1) =>
    if s.params.encDcChecked = true ∧ g = .err then some (.err, s1)
    else
      match busTransfer [opc] s1 with
      | none => none
      | some (.err, s2) => some (.err, s2)
      | some (.ok, s2) => if params = [] then some (.ok, s2) else busTransfer params s2

/-- `send_data(bytes)` (R91): raise DC, transfer the payload, lower DC; the first failing step ends it. -/
def sendData (bytes : List Byte) (s : State) : Option (Reply × State) :=
  match gpioSet .high s with
  | none => none
  | some (.err, s1) => some (.err, s1)
  | some (.ok, s1) =>
    match busTransfer bytes s1 with
    | none => none
    | some (.err, s2) => some (.err, s2)
    | some (.ok, s2) => gpioSet .low s2

/-- The result of an operation that can fail with `IoError` only (R161). -/
def ioResult : Reply → Result
  | .ok => .ok
  | .err => .err .ioError

/-- An operation comes back with its result, or is stuck in a collaborator call (R190). -/
def finish : Option (Reply × State) → Host.Outcome State Fault Refusal
  | none => .fault .collaboratorNeverReturns
  | some (r, s) => .next (s.ret (ioResult r))

/-- A write of a record field that is made only when the operation answered `Ok` (R27, R28). -/
def onOk (f : State → State) : Reply × State → Reply × State
  | (.ok, s) => (.ok, f s)
  | (.err, s) => (.err, s)

end Sys2Proof.Machine
end

