-- ==== Sys2Proof/Machine/Device.lean ====
section
/-! DEFINITION. The host operations that use a collaborator (42_device_operations.md R121 to R131). -/
namespace Sys2Proof.Machine

/-- The bus configuration `initialize` fixes (R24, R121): 8-bit words, a single line. -/
def busConfigOf (cfg : InstanceConfig) : BusConfig :=
  { cpol := cfg.busCpol, cpha := cfg.busCpha, wordBits := 8, lines := .single, cs := cfg.busCs }

/-- The body of `initialize` (R121): bus handle, GPIO handle, pin, in this order (R122); the first failure ends it and
writes nothing but the trace. -/
def acquireAll (cfg : InstanceConfig) (s : State) : Option (Result × State) :=
  match getBusHandle cfg.busName s with
  | none => none
  | some (none, s1) => some (.err .initError, s1)
  | some (some b, s1) =>
    match getGpioHandle cfg.dcGpioName s1 with
    | none => none
    | some (none, s2) => some (.err .initError, s2)
    | some (some g, s2) =>
      match gpioConfigureOutput s2 with
      | none => none
      | some (.err, s3) => some (.err .initError, s3)
      | some (.ok, s3) => some (.ok, s3.acquire b g (busConfigOf cfg))

/-- initialize (R121, R122). -/
def execInitialize (cfg : InstanceConfig) (s : State) : Host.Outcome State Fault Refusal :=
  match s.life with
  | .initialized => .next (s.refuse .alreadyInitialized)
  | .uninitialized =>
    match acquireAll cfg s with
    | none => .fault .collaboratorNeverReturns
    | some (r, s1) => .next (s1.ret r)

/-- unblank (R123, R125): sends DISPLAY_ON. -/
def execUnblank (s : State) : Host.Outcome State Fault Refusal :=
  whenInitialized s (finish ((send s.params.opcodes.displayOn [] s).map (onOk (State.setDisplay .on))))

/-- blank (R124, R125): sends DISPLAY_OFF. -/
def execBlank (s : State) : Host.Outcome State Fault Refusal :=
  whenInitialized s (finish ((send s.params.opcodes.displayOff [] s).map (onOk (State.setDisplay .off))))

/-- set_contrast (R131). -/
def execSetContrast (v : Byte) (s : State) : Host.Outcome State Fault Refusal :=
  whenInitialized s (finish ((send s.params.opcodes.contrast [v] s).map (onOk (State.setContrast v))))

/-- The transfers of a `write` (R127): the row command, the column command, whose results are not checked (R128), and
the payload, read at the moment of its transfer (R16, R129). -/
def writeRegion (w : Window) (buf : List Byte) (bufSize : Nat) (s : State) : Option (Reply × State) :=
  match send s.params.opcodes.rowAddr (rowParams w) s with
  | none => none
  | some (_, s1) =>
    match send s1.params.opcodes.colAddr (colParams w) s1 with
    | none => none
    | some (_, s2) => sendData (memRead s2.oracle.drawn buf bufSize) s2

/-- write (R126, R127): the three preconditions in their order, then the transfers. -/
def execWrite (x y : HalfWord) (r : WriteRegion) (s : State) : Host.Outcome State Fault Refusal :=
  whenInitialized s <|
    match r.buf with
    | none => .next (s.refuse .emptyBuffer)
    | some buf =>
      if r.bufSize = 0 then .next (s.refuse .emptyBuffer)
      else if inRange s.params (computeWindow s.params x y r.pitch) then
        finish (writeRegion (computeWindow s.params x y r.pitch) buf r.bufSize s)
      else .next (s.refuse .windowOutOfRange)

end Sys2Proof.Machine
end

