-- ==== Sys2Proof/Machine/Encoder.lean ====
section
/-! DEFINITION. The wire commands and the data phase (40_command_encoder.md R85 to R91) as instructions of their own. The
host cannot ask for one (R80): its calls are host operations (`Request`), and the block runs `send` and `send_data` inside
them. Run by themselves, from the bench, they use the bus, so they pass the gate of R120 (log 14). -/
namespace Sys2Proof.Machine

/-- COL_ADDR cs, ce (R85). -/
def execColAddr (cs ce : Byte) (s : State) : Host.Outcome State Fault Refusal :=
  whenInitialized s (finish (send s.params.opcodes.colAddr [cs, ce] s))

/-- ROW_ADDR rs, re (R86). -/
def execRowAddr (rs re : Byte) (s : State) : Host.Outcome State Fault Refusal :=
  whenInitialized s (finish (send s.params.opcodes.rowAddr [rs, re] s))

/-- REMAP p... (R90). -/
def execRemap (ps : List Byte) (s : State) : Host.Outcome State Fault Refusal :=
  whenInitialized s (finish (send s.params.opcodes.remap ps s))

/-- DISPLAY_ON (R88). -/
def execDisplayOn (s : State) : Host.Outcome State Fault Refusal :=
  whenInitialized s (finish (send s.params.opcodes.displayOn [] s))

/-- DISPLAY_OFF (R89). -/
def execDisplayOff (s : State) : Host.Outcome State Fault Refusal :=
  whenInitialized s (finish (send s.params.opcodes.displayOff [] s))

/-- CONTRAST v (R87). -/
def execContrast (v : Byte) (s : State) : Host.Outcome State Fault Refusal :=
  whenInitialized s (finish (send s.params.opcodes.contrast [v] s))

/-- DATA (R91). -/
def execData (payload : List Byte) (s : State) : Host.Outcome State Fault Refusal :=
  whenInitialized s (finish (sendData payload s))

end Sys2Proof.Machine
end

