-- ==== Sys2Proof/Machine/Queries.lean ====
section
/-! DEFINITION. The host operations that touch no collaborator (42_device_operations.md R132 to R137). They answer the
same in either lifecycle state (R120). -/
namespace Sys2Proof.Machine

/-- `CAPS(W, H)` (R133, R29). -/
def capsOf (p : Params) : Capabilities :=
  { xResolution := p.width
    yResolution := p.height
    supportedPixelFormats := [.gray4]
    currentPixelFormat := .gray4
    screenInfo := .monoMsbFirst
    currentOrientation := .normal }

/-- The answer to `set_pixel_format` (R132). -/
def formatResult (f : PixelFormat) : Result :=
  if f = .gray4 then .ok else .err .unsupportedFormat

/-- set_pixel_format (R132). -/
def execSetPixelFormat (f : PixelFormat) (s : State) : Host.Outcome State Fault Refusal :=
  .next (s.ret (formatResult f))

/-- get_capabilities (R133). -/
def execGetCapabilities (s : State) : Host.Outcome State Fault Refusal :=
  .next (s.ret (.caps (capsOf s.params)))

/-- read (R134). -/
def execRead (_args : List Arg) (s : State) : Host.Outcome State Fault Refusal :=
  .next (s.ret (.err .unsupported))

/-- get_framebuffer (R135). -/
def execGetFramebuffer (s : State) : Host.Outcome State Fault Refusal :=
  .next (s.ret (.err .unsupported))

/-- set_brightness (R136). -/
def execSetBrightness (_args : List Arg) (s : State) : Host.Outcome State Fault Refusal :=
  .next (s.ret (.err .unsupported))

/-- set_orientation (R137), `NORMAL` included. -/
def execSetOrientation (_args : List Arg) (s : State) : Host.Outcome State Fault Refusal :=
  .next (s.ret (.err .unsupported))

end Sys2Proof.Machine
end

