-- ==== Sys2Proof/Machine/Dispatch.lean ====
section
/-! DEFINITION. One arm per row of spec/opcode_table.json. -/
namespace Sys2Proof.Machine

/-- The meaning of an instruction. -/
def exec (i : Instr) (s : State) : Host.Outcome State Fault Refusal :=
  match i with
  -- wire commands and data phase (40_command_encoder.md)
  | .colAddr cs ce => Sys2Proof.Machine.execColAddr cs ce s
  | .rowAddr rs re => Sys2Proof.Machine.execRowAddr rs re s
  | .remap p => Sys2Proof.Machine.execRemap p s
  | .displayOn => Sys2Proof.Machine.execDisplayOn s
  | .displayOff => Sys2Proof.Machine.execDisplayOff s
  | .contrast v => Sys2Proof.Machine.execContrast v s
  | .data payload => Sys2Proof.Machine.execData payload s
  -- host operations (42_device_operations.md)
  | .initDevice cfg => Sys2Proof.Machine.execInitialize cfg s
  | .unblank => Sys2Proof.Machine.execUnblank s
  | .blank => Sys2Proof.Machine.execBlank s
  | .write x y region => Sys2Proof.Machine.execWrite x y region s
  | .read args => Sys2Proof.Machine.execRead args s
  | .getFramebuffer => Sys2Proof.Machine.execGetFramebuffer s
  | .setBrightness args => Sys2Proof.Machine.execSetBrightness args s
  | .setContrast v => Sys2Proof.Machine.execSetContrast v s
  | .getCapabilities => Sys2Proof.Machine.execGetCapabilities s
  | .setPixelFormat format => Sys2Proof.Machine.execSetPixelFormat format s
  | .setOrientation args => Sys2Proof.Machine.execSetOrientation args s

end Sys2Proof.Machine
end

