-- ==== Sys2Proof/Machine/Fetch.lean ====
section
/-! DEFINITION. How the block comes by its next instruction: it takes the host's first pending call (R57, R168, log 7).
A wire command run by itself stands on the bench, which is outside the block (log 14). -/
namespace Sys2Proof.Machine

/-- What a step finds to do. -/
inductive Fetched where
  /-- No call is pending: the block waits (R21). -/
  | idle
  /-- The call was made while another was in progress (R168). -/
  | overlapping
  /-- The request is no instruction. -/
  | bad (why : DecodeError)
  /-- An instruction to run. -/
  | run (i : Instr)
deriving DecidableEq, Repr

/-- A decoded request as something to do. -/
def Fetched.ofDecoded : Except DecodeError Instr → Fetched
  | .error why => .bad why
  | .ok i => .run i

/-- The word on the bench, if there is one (log 14), else the first pending call of the host (R57), decoded with the
parameters of this instance. A pending call is a host operation: the host cannot ask for a wire command (R80). -/
def fetch (s : State) : Fetched :=
  match s.bench with
  | some b => .ofDecoded (decode s.params (.wire b.level b.bytes))
  | none =>
    match s.inbox with
    | [] => .idle
    | r :: _ => if r.overlaps then .overlapping else .ofDecoded (decode s.params (.call r.call))

/-- The state with what `fetch` finds taken up: the word on the bench, or else the first pending call. -/
def State.taken (s : State) : State :=
  { s with bench := none, inbox := if s.bench.isSome then s.inbox else s.inbox.tail }

/-- The state with a call of the host placed before every pending call. -/
def State.withRequest (s : State) (r : Request) : State :=
  { s with inbox := r :: s.inbox }

/-- The state with a word on the bench (log 14). -/
def State.withBench (s : State) (b : BenchWord) : State :=
  { s with bench := some b }

end Sys2Proof.Machine
end

