-- ==== Sys2Proof/Machine/Step.lean ====
section
/-! DEFINITION. One step of the machine: one host operation, whole (R21, D24). -/
namespace Sys2Proof.Machine

/-- Take up the first pending call and run it (R21, R57), or the word on the bench if there is one (log 14). With neither
the block waits (log 7); a call made while another is in progress is refused (R168, log 8). -/
def step (s : State) : Host.Outcome State Fault Refusal :=
  match fetch s with
  | .idle => .next s
  | .overlapping => .next (s.taken.refuse .concurrentCall)
  | .bad why => .refused (.undecodable why)
  | .run i => exec i s.taken

/-- `s` with a table word on the bench, on the command level, where the next step takes it (log 13, log 14). -/
def State.withFetchWord (s : State) (nbits w : Nat) : State :=
  s.withBench { level := .low, bytes := tableCommand s.params nbits w }

end Sys2Proof.Machine
end

