-- ==== Sys2Proof/Machine/Text.lean ====
section
/-! DEFINITION. The textual syntax of R75 (D38): one line, one instruction. Notation only: no step reads text. -/
namespace Sys2Proof.Machine

/-- A lexeme of a line. -/
inductive Token where
  | name (w : String)
  | num (n : Nat)
  | sym (c : Char)
deriving DecidableEq, Repr

/-- A character of a name or a number. -/
def isWordChar (c : Char) : Bool :=
  c.isAlphanum || c == '_'

/-- The value of a digit in base 10 or 16. -/
def digitValue (base : Nat) (c : Char) : Option Nat :=
  let n := c.toNat
  let v := if 48 ≤ n ∧ n ≤ 57 then n - 48 else if 97 ≤ n ∧ n ≤ 102 then n - 87 else if 65 ≤ n ∧ n ≤ 70 then n - 55 else 16
  if v < base then some v else none

/-- A digit sequence as a number, `acc` being the value of the digits before. -/
def numberFrom (base acc : Nat) : List Char → Option Nat
  | [] => some acc
  | c :: cs =>
    match digitValue base c with
    | some d => numberFrom base (base * acc + d) cs
    | none => none

/-- A run of word characters as a token: a name, or a number, decimal unless written `0x..` (R75). -/
def wordToken (cs : List Char) : Option Token :=
  match cs with
  | [] => none
  | '0' :: 'x' :: d :: ds => (numberFrom 16 0 (d :: ds)).map .num
  | c :: _ => if c.isDigit then (numberFrom 10 0 cs).map .num else some (.name (String.ofList cs))

/-- The token of a run that has ended, if there is one. -/
def closeRun (run : List Char) (rest : Option (List Token)) : Option (List Token) :=
  if run = [] then rest
  else
    match wordToken run, rest with
    | some t, some ts => some (t :: ts)
    | _, _ => none

/-- The tokens of a line; `run` is the run of word characters in progress. -/
def lexFrom (run : List Char) : List Char → Option (List Token)
  | [] => closeRun run (some [])
  | c :: cs =>
    if isWordChar c then lexFrom (run ++ [c]) cs
    else if c = ' ' then closeRun run (lexFrom [] cs)
    else if c = '=' ∨ c = '[' ∨ c = ']' ∨ c = ',' then closeRun run ((lexFrom [] cs).map (.sym c :: ·))
    else none

/-- Bytes, separated by commas or by nothing, up to the end or a closing bracket, and the tokens from there. -/
def byteList : List Token → Option (List Byte × List Token)
  | .num n :: .sym ',' :: ts => do
    let b ← byteArg n
    let (bs, rest) ← byteList ts
    return (b :: bs, rest)
  | .num n :: ts => do
    let b ← byteArg n
    let (bs, rest) ← byteList ts
    return (b :: bs, rest)
  | ts => some ([], ts)

/-- A bracketed byte list that ends the line. -/
def bracketBytes : List Token → Option (List Byte)
  | .sym '[' :: ts =>
    match byteList ts with
    | some (bs, [.sym ']']) => some bs
    | _ => none
  | _ => none

/-- The arguments of an operation that takes any: numbers and names (log 10). -/
def anyArgs : List Token → Option (List Arg)
  | [] => some []
  | .num n :: ts => (anyArgs ts).map (.num n :: ·)
  | .name w :: ts => (anyArgs ts).map (.word w :: ·)
  | .sym _ :: _ => none

/-- A pitch of a `write`: a number or `none` (R75). -/
def pitchToken : Token → Option (Option HalfWord)
  | .num n => (halfArg n).map some
  | .name "none" => some none
  | _ => none

/-- A line's tokens as an instruction (R75). `initialize` carries the configuration of the instance. Of the other pixel
formats, which have no names in the spec, the k-th is written by its number (log 16). -/
def parseTokens (p : Params) : List Token → Option Instr
  | [.name "initialize"] => some (.initDevice p.inst)
  | [.name "unblank"] => some .unblank
  | [.name "blank"] => some .blank
  | .name "write" :: .name "x" :: .sym '=' :: .num x :: .name "y" :: .sym '=' :: .num y :: .name "pitch" :: .sym '=' ::
      pt :: .name "buf" :: .sym '=' :: ts => do
    let x ← halfArg x
    let y ← halfArg y
    let pitch ← pitchToken pt
    let bs ← bracketBytes ts
    return .write x y { buf := some bs, bufSize := bs.length, pitch := pitch }
  | [.name "set_contrast", .num v] => (byteArg v).map .setContrast
  | [.name "set_pixel_format", .name "GRAY4"] => some (.setPixelFormat .gray4)
  | [.name "set_pixel_format", .num k] => some (.setPixelFormat (.other k))
  | [.name "get_capabilities"] => some .getCapabilities
  | .name "read" :: ts => (anyArgs ts).map .read
  | [.name "get_framebuffer"] => some .getFramebuffer
  | .name "set_brightness" :: ts => (anyArgs ts).map .setBrightness
  | .name "set_orientation" :: ts => (anyArgs ts).map .setOrientation
  | [.name "COL_ADDR", .num s, .sym ',', .num e] => do return .colAddr (← byteArg s) (← byteArg e)
  | [.name "ROW_ADDR", .num s, .sym ',', .num e] => do return .rowAddr (← byteArg s) (← byteArg e)
  | [.name "CONTRAST", .num v] => (byteArg v).map .contrast
  | [.name "DISPLAY_ON"] => some .displayOn
  | [.name "DISPLAY_OFF"] => some .displayOff
  | .name "REMAP" :: ts =>
    match byteList ts with
    | some (bs, []) => some (.remap bs)
    | _ => none
  | .name "DATA" :: ts => (bracketBytes ts).map .data
  | _ => none

/-- A line as an instruction of the instance, well-formed or none (R75). -/
def parseLine (p : Params) (line : String) : Option Instr :=
  match (lexFrom [] line.toList).bind (parseTokens p) with
  | some i => if wellFormed p i then some i else none
  | none => none

end Sys2Proof.Machine
end

