-- ==== Sys2Proof/Machine/Wire.lean ====
section
/-! DEFINITION. The wire seen from outside: the decoder of a trace (R70), the expansion of an operation to wire commands
(R76), the events of a command when every collaborator answers `Ok`, and the bits on the serial line (R11, R51). -/
namespace Sys2Proof.Machine

/-- The command and payload sequence of a trace. Command-mode bytes are joined and decoded up to the next data-mode
transfer, which stands in the result as a DATA (R70; log 15). `cur` is the stream so far. -/
def wireProgramFrom (p : Params) : List Byte → List Event → Except DecodeError (List Instr)
  | cur, [] => decodeStream p cur
  | cur, .xfer .cmd bytes .ok :: es => wireProgramFrom p (cur ++ bytes) es
  | cur, .xfer .data bytes .ok :: es =>
    match decodeStream p cur, wireProgramFrom p [] es with
    | .error e, _ => .error e
    | .ok _, .error e => .error e
    | .ok is, .ok js => .ok (is ++ .data bytes :: js)
  | _, .xfer .unknown _ .ok :: _ => .error .undecodableTransfer
  | _, .xfer _ _ .err :: _ => .error .undecodableTransfer
  | cur, .setDC _ _ :: es => wireProgramFrom p cur es
  | cur, .cfgOut _ :: es => wireProgramFrom p cur es
  | cur, .getBus _ _ :: es => wireProgramFrom p cur es
  | cur, .getGpio _ _ :: es => wireProgramFrom p cur es

/-- The commands and payloads a trace holds (R70). -/
def wireProgram (p : Params) (tr : List Event) : Except DecodeError (List Instr) :=
  wireProgramFrom p [] tr

/-- The bytes of the opcode transfers of a trace: of each first transfer after the line was set to command mode, which is
how `send` begins (R81). `lowered`: the event before was such a setting. -/
def opcodesSentFrom (lowered : Bool) : List Event → List Byte
  | [] => []
  | .setDC level _ :: es => opcodesSentFrom (level == .low) es
  | .xfer _ bytes _ :: es => (if lowered then bytes else []) ++ opcodesSentFrom false es
  | .cfgOut _ :: es => opcodesSentFrom false es
  | .getBus _ _ :: es => opcodesSentFrom false es
  | .getGpio _ _ :: es => opcodesSentFrom false es

/-- The opcodes that a trace holds, whatever was answered. -/
def opcodesSent (tr : List Event) : List Byte :=
  opcodesSentFrom false tr

/-- The five opcodes that the block emits (R72). -/
def emittedOpcodes (o : Opcodes) : List Byte :=
  [o.rowAddr, o.colAddr, o.displayOn, o.displayOff, o.contrast]

/-- Did the collaborator answer this call `Ok` or `Some`? -/
def Event.isOk : Event → Bool
  | .setDC _ ans => ans == .ok
  | .xfer _ _ ans => ans == .ok
  | .cfgOut ans => ans == .ok
  | .getBus _ found => found
  | .getGpio _ found => found

/-- R76: the wire commands of an instruction, if it is accepted and every collaborator answers `Ok`. A wire command is
its own expansion. -/
def expansion (p : Params) : Instr → List Instr
  | .colAddr s e => [.colAddr s e]
  | .rowAddr s e => [.rowAddr s e]
  | .remap ps => [.remap ps]
  | .displayOn => [.displayOn]
  | .displayOff => [.displayOff]
  | .contrast v => [.contrast v]
  | .data bs => [.data bs]
  | .initDevice _ => []
  | .unblank => [.displayOn]
  | .blank => [.displayOff]
  | .write x y r =>
    let w := computeWindow p x y r.pitch
    [.rowAddr (windowByte w.rowStart) (windowByte w.rowEnd), .colAddr (windowByte w.colStart) (windowByte w.colEnd),
      .data ((r.buf.getD []).take r.bufSize)]
  | .read _ => []
  | .getFramebuffer => []
  | .setBrightness _ => []
  | .setContrast v => [.contrast v]
  | .getCapabilities => []
  | .setPixelFormat _ => []
  | .setOrientation _ => []

/-- The bits of one word in the order in which they are on the line (R11, R51, D11). -/
def wordBits (order : BitOrder) (b : Byte) : List Bool :=
  let lsb := (List.range 8).map b.getLsbD
  match order with
  | .lsbFirst => lsb
  | .msbFirst => lsb.reverse

/-- The bits of a transfer: byte after byte in the order of the sequence (R51, D10). -/
def lineBits (p : Params) (bytes : List Byte) : List Bool :=
  bytes.flatMap (wordBits p.bitOrder)

end Sys2Proof.Machine
end

