-- ==== Sys2Proof/Safety.lean ====
section
/-! DEFINITION. What counts as a safe run, in the terms the statements use. -/
namespace Sys2Proof.Machine

/-- A state that can be the correct end of a run (R31): no call of it was refused. -/
abbrev CorrectEnd (s : State) : Prop :=
  s.refused = false

/-- An event of `initialize` (R35): the only kind an uninitialized block has in its trace. -/
def Event.isSetup : Event → Bool
  | .setDC _ _ => false
  | .xfer _ _ _ => false
  | .cfgOut _ => true
  | .getBus _ _ => true
  | .getGpio _ _ => true

/-- The invariants of R35, with the bus configuration as R24 fixes it. -/
structure State.Inv (s : State) : Prop where
  /-- Nothing is acquired, driven or recorded before `initialize` has succeeded. -/
  uninit : s.life = .uninitialized →
    s.bus = none ∧ s.gpio = none ∧ s.busCfg = none ∧ s.dcOut = false ∧ s.dc = .unknown ∧ s.contrast = none ∧
      s.displayOn = .unknown ∧ ∀ e ∈ s.trace, e.isSetup = true
  /-- Everything is acquired once it has. -/
  init : s.life = .initialized →
    s.bus.isSome = true ∧ s.gpio.isSome = true ∧ s.busCfg.isSome = true ∧ s.dcOut = true
  /-- R24: every field of the bus configuration is fixed by the instance's parameters; `word_bits` is hardwired to 8 and
  `lines` to Single. -/
  hardwired : ∀ c, s.busCfg = some c →
    c = { cpol := s.params.inst.busCpol, cpha := s.params.inst.busCpha, wordBits := 8, lines := .single,
          cs := s.params.inst.busCs }

/-- The trace decodes as R70 says, as long as every collaborator has answered `Ok`. -/
def State.WireOk (s : State) : Prop :=
  (∀ e ∈ s.trace, e.isOk = true) → ∃ is, wireProgram s.params s.trace = .ok is

/-- The block as its host drives it (R72, R80): no wire command is run by itself, and every opcode sent is one of the five
that the block emits. -/
structure State.HostDriven (s : State) : Prop where
  noBench : s.bench = none
  opcodes : ∀ b ∈ opcodesSent s.trace, b ∈ emittedOpcodes s.params.opcodes

/-- The states of the runs of an instance with parameters `p`: from reset, whatever host operations the host calls and
whatever the collaborators answer (R14, R57, R80, R180). -/
inductive Reachable (p : Params) : State → Prop where
  | reset (o : Oracle) (calls : List Request) : Reachable p { State.resetWith p o with inbox := calls }
  | step (s t : State) : Reachable p s → step s = .next t → Reachable p t

end Sys2Proof.Machine
end

