-- ==== Sys2Proof/Certificates/Slice0/Obligations.lean ====
section
/-! DEFINITION. The statements for the provers, and the spec's tables in which they are written: the event tables of R82
(`send`), R91 (`send_data`) and R121 (`initialize`) as functions of the collaborators' answers, written from the spec and
not from the meanings. A statement speaks of the result that an operation returns, and of the reason of a refusal, through
the model's own record `ends` (log 6), of the answers to come through `oracle` (log 3), and of a refused call as a next
state (log 5). -/

namespace Sys2Proof.Spec
open Sys2Proof Sys2Proof.Machine

/-! ### The table of `send` (R82, R83) -/

/-- The answers that `send` asks for from the k-th on: to `GpioSet(0)`, then, if it goes on, to the opcode transfer, then,
if that is `Ok` and there are parameters, to the parameter transfer. -/
def SendAnswers (o : Oracle) (k : Nat) (checked : Bool) (ps : List Byte) (g x q : Reply) : Prop :=
  replyOf (o.answer k) = some g ∧
    (¬(checked = true ∧ g = .err) →
      replyOf (o.answer (k + 1)) = some x ∧ (x = .ok → ps ≠ [] → replyOf (o.answer (k + 2)) = some q))

/-- The events of the row of R82 for these answers. -/
def sendEvents (checked : Bool) (opc : Byte) (ps : List Byte) (g x q : Reply) : List Event :=
  let d : Dc := if g = .ok then .cmd else .unknown
  if checked = true ∧ g = .err then [.setDC .low g]
  else if x = .ok ∧ ps ≠ [] then [.setDC .low g, .xfer d [opc] x, .xfer d ps q]
  else [.setDC .low g, .xfer d [opc] x]

/-- The result of the row of R82 for these answers. -/
def sendReply (checked : Bool) (ps : List Byte) (g x q : Reply) : Reply :=
  if (checked = true ∧ g = .err) ∨ x = .err then .err else if ps = [] then .ok else q

/-- `dc` after `send` (R83). -/
def sendDc (g : Reply) : Dc :=
  if g = .ok then .cmd else .unknown

/-! ### The table of `send_data` (R91) -/

/-- The answers that `send_data` asks for from the k-th on: to the raise, the payload transfer, the lower. -/
def DataAnswers (o : Oracle) (k : Nat) (up x down : Reply) : Prop :=
  replyOf (o.answer k) = some up ∧
    (up = .ok → replyOf (o.answer (k + 1)) = some x ∧ (x = .ok → replyOf (o.answer (k + 2)) = some down))

/-- The events of `send_data` for these answers. -/
def dataEvents (bytes : List Byte) (up x down : Reply) : List Event :=
  match up, x with
  | .err, _ => [.setDC .high .err]
  | .ok, .err => [.setDC .high .ok, .xfer .data bytes .err]
  | .ok, .ok => [.setDC .high .ok, .xfer .data bytes .ok, .setDC .low down]

/-- The result of `send_data` for these answers. -/
def dataReply (up x down : Reply) : Reply :=
  if up = .ok ∧ x = .ok ∧ down = .ok then .ok else .err

/-- `dc` after `send_data` (R91, R130). -/
def dataDc (up x down : Reply) : Dc :=
  match up, x, down with
  | .err, _, _ => .unknown
  | .ok, .err, _ => .data
  | .ok, .ok, .err => .unknown
  | .ok, .ok, .ok => .cmd

/-! ### The table of `initialize` (R121) -/

/-- The answers that `initialize` asks for: the two lookups and the pin configuration, as far as it goes. -/
def InitAnswers (o : Oracle) (b g : Option Handle) (c : Reply) : Prop :=
  lookupOf (o.answer 0) = some b ∧
    (b ≠ none → lookupOf (o.answer 1) = some g ∧ (g ≠ none → replyOf (o.answer 2) = some c))

/-- The events of `initialize` for these answers. -/
def initEvents (cfg : InstanceConfig) (b g : Option Handle) (c : Reply) : List Event :=
  match b, g with
  | none, _ => [.getBus cfg.busName false]
  | some _, none => [.getBus cfg.busName true, .getGpio cfg.dcGpioName false]
  | some _, some _ => [.getBus cfg.busName true, .getGpio cfg.dcGpioName true, .cfgOut c]

/-! ### Names for groups of instructions -/

/-- The opcode byte and the parameters that a wire command sends (R85 to R90). -/
def wireParts (p : Params) : Instr → Option (Byte × List Byte)
  | .colAddr cs ce => some (p.opcodes.colAddr, [cs, ce])
  | .rowAddr rs re => some (p.opcodes.rowAddr, [rs, re])
  | .remap ps => some (p.opcodes.remap, ps)
  | .displayOn => some (p.opcodes.displayOn, [])
  | .displayOff => some (p.opcodes.displayOff, [])
  | .contrast v => some (p.opcodes.contrast, [v])
  | .data _ => none
  | .initDevice _ => none
  | .unblank => none
  | .blank => none
  | .write _ _ _ => none
  | .read _ => none
  | .getFramebuffer => none
  | .setBrightness _ => none
  | .setContrast _ => none
  | .getCapabilities => none
  | .setPixelFormat _ => none
  | .setOrientation _ => none

/-- The bytes of a wire command in command mode (R60). -/
def commandBytes (p : Params) (i : Instr) : List Byte :=
  match wireParts p i with
  | some (opc, ps) => opc :: ps
  | none => []

/-- The four host operations that need an initialized block (R120). -/
def usesBus : Instr → Bool
  | .colAddr _ _ => false
  | .rowAddr _ _ => false
  | .remap _ => false
  | .displayOn => false
  | .displayOff => false
  | .contrast _ => false
  | .data _ => false
  | .initDevice _ => false
  | .unblank => true
  | .blank => true
  | .write _ _ _ => true
  | .read _ => false
  | .getFramebuffer => false
  | .setBrightness _ => false
  | .setContrast _ => true
  | .getCapabilities => false
  | .setPixelFormat _ => false
  | .setOrientation _ => false

/-- The seven wire rows of the opcode table. -/
def isWire : Instr → Bool
  | .colAddr _ _ => true
  | .rowAddr _ _ => true
  | .remap _ => true
  | .displayOn => true
  | .displayOff => true
  | .contrast _ => true
  | .data _ => true
  | .initDevice _ => false
  | .unblank => false
  | .blank => false
  | .write _ _ _ => false
  | .read _ => false
  | .getFramebuffer => false
  | .setBrightness _ => false
  | .setContrast _ => false
  | .getCapabilities => false
  | .setPixelFormat _ => false
  | .setOrientation _ => false

/-- The six host operations that touch no collaborator (R120). -/
def touchesNothing : Instr → Bool
  | .colAddr _ _ => false
  | .rowAddr _ _ => false
  | .remap _ => false
  | .displayOn => false
  | .displayOff => false
  | .contrast _ => false
  | .data _ => false
  | .initDevice _ => false
  | .unblank => false
  | .blank => false
  | .write _ _ _ => false
  | .read _ => true
  | .getFramebuffer => true
  | .setBrightness _ => true
  | .setContrast _ => false
  | .getCapabilities => true
  | .setPixelFormat _ => true
  | .setOrientation _ => true

/-- The error an operation may hand back (R161); none: it returns no error. -/
def errorOf : Instr → Option ErrorKind
  | .colAddr _ _ => some .ioError
  | .rowAddr _ _ => some .ioError
  | .remap _ => some .ioError
  | .displayOn => some .ioError
  | .displayOff => some .ioError
  | .contrast _ => some .ioError
  | .data _ => some .ioError
  | .initDevice _ => some .initError
  | .unblank => some .ioError
  | .blank => some .ioError
  | .write _ _ _ => some .ioError
  | .read _ => some .unsupported
  | .getFramebuffer => some .unsupported
  | .setBrightness _ => some .unsupported
  | .setContrast _ => some .ioError
  | .getCapabilities => none
  | .setPixelFormat _ => some .unsupportedFormat
  | .setOrientation _ => some .unsupported

/-- A `write` that passes the three preconditions of R126, with the buffer it names. -/
def Accepted (s : State) (x y : HalfWord) (r : WriteRegion) (buf : List Byte) : Prop :=
  s.life = .initialized ∧ r.buf = some buf ∧ r.bufSize ≠ 0 ∧
    inRange s.params (computeWindow s.params x y r.pitch)

end Sys2Proof.Spec

open Sys2Proof Sys2Proof.Machine Sys2Proof.Spec

/-! ### Reset and the step -/

/-- R180: after reset every field of R20 holds the value of its reset column. -/
def Obligations.ResetHoldsTheSpecValues : Prop :=
  (∀ (p : Params) (o : Oracle),
    let s := State.resetWith p o
    s.life = .uninitialized ∧ s.bus = none ∧ s.gpio = none ∧ s.busCfg = none ∧ s.dcOut = false ∧ s.dc = .unknown ∧
      s.contrast = none ∧ s.displayOn = .unknown ∧ s.trace = [] ∧ s.refused = false) ∧
  ∃ p o, State.reset = State.resetWith p o

/-- R35 at reset: whatever the parameters, the oracle and the host's calls. -/
def Obligations.ResetMeetsInvariant : Prop :=
  ∀ (p : Params) (o : Oracle) (calls : List Request), ({ State.resetWith p o with inbox := calls } : State).Inv

/-- R21, R57: a step takes the host's first pending call, decodes it and runs it. A wire command that is to run by itself
stands on the bench and is run before any call: the model's choice (log 14). -/
def Obligations.StepRunsDecodedInstruction : Prop :=
  (∀ (s : State) (r : Request) (rest : List Request) (i : Instr),
    s.bench = none → s.inbox = r :: rest → r.overlaps = false → decode s.params (.call r.call) = .ok i →
      step s = exec i { s with inbox := rest }) ∧
  ∀ (s : State) (b : BenchWord) (i : Instr),
    s.bench = some b → decode s.params (.wire b.level b.bytes) = .ok i → step s = exec i { s with bench := none }

/-- With no call pending the block waits unchanged: the model's choice (log 7). A host call that is no call of R73 stops by
name: the form of a call and this stop are the model's choice (log 9), since R70 speaks of command bytes only. Bytes on the
bench that R70 refuses, or that are no single command or payload, stop by name: the bench is the model's choice (log 14). -/
def Obligations.StepWithoutInstruction : Prop :=
  (∀ s : State, s.bench = none → s.inbox = [] → step s = .next s) ∧
  (∀ (s : State) (r : Request) (rest : List Request) (e : DecodeError),
    s.bench = none → s.inbox = r :: rest → r.overlaps = false → decode s.params (.call r.call) = .error e →
      step s = .refused (.undecodable e)) ∧
  ∀ (s : State) (b : BenchWord) (e : DecodeError),
    s.bench = some b → decode s.params (.wire b.level b.bytes) = .error e → step s = .refused (.undecodable e)

/-- R168, R166: a call made while another is in progress is refused, whatever it asks for. The mark on the request is the
model's form of the schedule (log 8). -/
def Obligations.OverlappingCallIsRefused : Prop :=
  ∀ (s : State) (r : Request) (rest : List Request), s.bench = none → s.inbox = r :: rest → r.overlaps = true →
    step s = .next { s with inbox := rest, refused := true, ends := s.ends ++ [.refused .concurrentCall] }

/-- R57, R8: a step takes up one call and never touches the parameters. A word on the bench (log 14) is taken up in place
of a call, and no step leaves one there. -/
def Obligations.StepTakesOneCall : Prop :=
  ∀ s t : State, step s = .next t →
    t.params = s.params ∧ t.bench = none ∧
      (s.bench = none → t.inbox = s.inbox.tail) ∧ (s.bench ≠ none → t.inbox = s.inbox)

/-! ### Encoding -/

/-- R60 to R67: bytes written out from the formats, with the reference opcodes, are the instructions they stand for. -/
def Obligations.WrittenOutBytesDecode : Prop :=
  decodeStream referenceParams [0x02, 5, 63, 0x01, 5, 14] = .ok [.rowAddr 5 63, .colAddr 5 14] ∧
  decodeStream referenceParams [0x04, 0x06, 0x7F, 0x05] = .ok [.displayOn, .contrast 0x7F, .displayOff] ∧
  decode referenceParams (.wire .low [0x03]) = .ok (.remap []) ∧
  decode referenceParams (.wire .high [0xAB]) = .ok (.data [0xAB]) ∧
  decode referenceParams (.call { op := "set_contrast", args := [.num 0x7F] }) = .ok (.setContrast 0x7F) ∧
  decode referenceParams (.call { op := "write", args := [.num 10, .num 5, .bytes [0xAB], .num 1, .num 20] }) =
    .ok (.write 10 5 { buf := some [0xAB], bufSize := 1, pitch := some 20 })

/-- No bit of an encoding is dropped: every instruction of every instance comes back from its encoding (R60 to R74). The
form of a host call is the model's choice (log 9, log 10). -/
def Obligations.DecodeOfEncode : Prop :=
  ∀ (p : Params) (i : Instr), p.Valid → wellFormed p i = true → decode p (encode p i) = .ok i

/-- Every request that decodes is the encoding of what it decodes to, which is well-formed. The form of a host call is the
model's choice (log 9, log 10). -/
def Obligations.EncodeOfDecode : Prop :=
  ∀ (p : Params) (b : Body) (i : Instr), decode p b = .ok i → encode p i = b ∧ wellFormed p i = true

/-- R69, R70: commands sent one after another are told apart by their opcodes alone. -/
def Obligations.StreamOfCommandsDecodes : Prop :=
  ∀ (p : Params) (is : List Instr), p.Valid →
    (∀ i ∈ is, (wireParts p i).isSome = true ∧ wellFormed p i = true) →
      decodeStream p (is.flatMap (commandBytes p)) = .ok is

/-- R70, R72: the stream decoder refuses a byte that is no opcode, and a command that is cut short. -/
def Obligations.StreamDecoderRefuses : Prop :=
  (∀ (p : Params) (b : Byte) (bs : List Byte), b ∉ p.opcodes.all →
    decodeStream p (b :: bs) = .error (.undecodableOpcode b)) ∧
  ∀ (p : Params) (i : Instr) (n : Nat), p.Valid → (wireParts p i).isSome = true → wellFormed p i = true →
    0 < n → n < (commandBytes p i).length →
      decodeStream p ((commandBytes p i).take n) = .error .truncatedCommand

/-- R75: lines of the spec's own syntax, from its examples. -/
def Obligations.TextLinesParse : Prop :=
  parseLine referenceParams "write x=10 y=5 pitch=20 buf=[0x12, 0x34]" =
    some (.write 10 5 { buf := some [0x12, 0x34], bufSize := 2, pitch := some 20 }) ∧
  parseLine referenceParams "write x=0 y=62 pitch=none buf=[0x12, 0x34]" =
    some (.write 0 62 { buf := some [0x12, 0x34], bufSize := 2, pitch := none }) ∧
  parseLine referenceParams "set_contrast 0x7F" = some (.setContrast 0x7F) ∧
  parseLine referenceParams "COL_ADDR 5, 14" = some (.colAddr 5 14) ∧
  parseLine referenceParams "set_orientation NORMAL" = some (.setOrientation [.word "NORMAL"]) ∧
  parseLine referenceParams "set_contrast 256" = none

/-! ### The collaborator primitives and the wire commands -/

/-- R46 to R49: what one collaborator call does, for each answer it can come back with. -/
def Obligations.CollaboratorCallsRecordTheirAnswer : Prop :=
  (∀ (s : State) (level : Level) (g : Reply), replyOf (s.oracle.answer 0) = some g →
    gpioSet level s = some (g, { s with
      dc := if g = .ok then (if level = .low then .cmd else .data) else .unknown
      trace := s.trace ++ [.setDC level g], oracle := s.oracle.advance 1 })) ∧
  (∀ (s : State) (bytes : List Byte) (x : Reply), replyOf (s.oracle.answer 0) = some x →
    busTransfer bytes s = some (x, { s with
      trace := s.trace ++ [.xfer s.dc bytes x], oracle := s.oracle.advance 1 })) ∧
  (∀ (s : State) (c : Reply), replyOf (s.oracle.answer 0) = some c →
    gpioConfigureOutput s = some (c, { s with
      trace := s.trace ++ [.cfgOut c], oracle := s.oracle.advance 1 })) ∧
  ∀ (s : State) (name : String) (h : Option Handle), lookupOf (s.oracle.answer 0) = some h →
    getBusHandle name s = some (h, { s with
      trace := s.trace ++ [.getBus name h.isSome], oracle := s.oracle.advance 1 }) ∧
    getGpioHandle name s = some (h, { s with
      trace := s.trace ++ [.getGpio name h.isSome], oracle := s.oracle.advance 1 })

/-- R82, R83: what `send` does in every state and for every combination of answers: the events, the result and the level
of the table, and nothing else changes. -/
def Obligations.SendFollowsItsTable : Prop :=
  ∀ (s : State) (opc : Byte) (ps : List Byte) (g x q : Reply),
    SendAnswers s.oracle 0 s.params.encDcChecked ps g x q →
      send opc ps s = some (sendReply s.params.encDcChecked ps g x q, { s with
        dc := sendDc g
        trace := s.trace ++ sendEvents s.params.encDcChecked opc ps g x q
        oracle := s.oracle.advance (sendEvents s.params.encDcChecked opc ps g x q).length })

/-- R91: what `send_data` does in every state and for every combination of answers: the first failing step ends it, and
nothing else changes. -/
def Obligations.SendDataShortCircuits : Prop :=
  ∀ (s : State) (bytes : List Byte) (up x down : Reply),
    DataAnswers s.oracle 0 up x down →
      sendData bytes s = some (dataReply up x down, { s with
        dc := dataDc up x down
        trace := s.trace ++ dataEvents bytes up x down
        oracle := s.oracle.advance (dataEvents bytes up x down).length })

/-- R85 to R90: on an initialized block COL_ADDR, ROW_ADDR, REMAP, DISPLAY_ON, DISPLAY_OFF and CONTRAST complete, for every
combination of answers, with the events, the result and the level of the table, and leave everything else alone. (That
they need an initialized block when asked for by themselves is log 14.) -/
def Obligations.WireCommandsFollowTheSendTable : Prop :=
  ∀ (s : State) (i : Instr) (opc : Byte) (ps : List Byte) (g x q : Reply),
    wireParts s.params i = some (opc, ps) → s.life = .initialized →
    SendAnswers s.oracle 0 s.params.encDcChecked ps g x q →
      exec i s = .next { s with
        dc := sendDc g
        trace := s.trace ++ sendEvents s.params.encDcChecked opc ps g x q
        oracle := s.oracle.advance (sendEvents s.params.encDcChecked opc ps g x q).length
        ends := s.ends ++ [.returned (if sendReply s.params.encDcChecked ps g x q = .ok then .ok
          else .err .ioError)] }

/-- R91: on an initialized block (log 14) DATA completes, for every combination of answers, and the first failing step
ends it. -/
def Obligations.DataPhaseShortCircuits : Prop :=
  ∀ (s : State) (payload : List Byte) (up x down : Reply), s.life = .initialized →
    DataAnswers s.oracle 0 up x down →
      exec (.data payload) s = .next { s with
        dc := dataDc up x down
        trace := s.trace ++ dataEvents payload up x down
        oracle := s.oracle.advance (dataEvents payload up x down).length
        ends := s.ends ++ [.returned (if dataReply up x down = .ok then .ok else .err .ioError)] }

/-- R120, D16: unblank, blank, write and set_contrast are refused before `initialize`, whatever their operands. -/
def Obligations.BusOperationsNeedInitialize : Prop :=
  ∀ (s : State) (i : Instr), usesBus i = true → s.life = .uninitialized →
    exec i s = .next { s with refused := true, ends := s.ends ++ [.refused .notInitialized] }

/-- The same of the seven wire rows asked for by themselves: the model's choice (log 14), in the spirit of R120. -/
def Obligations.WireRowsNeedInitialize : Prop :=
  ∀ (s : State) (i : Instr), isWire i = true → s.life = .uninitialized →
    exec i s = .next { s with refused := true, ends := s.ends ++ [.refused .notInitialized] }

/-! ### The host operations -/

/-- R121: `initialize` asks for the bus handle, the GPIO handle and the pin in this order, ends at the first failure with
`InitError` and nothing written but the trace, and otherwise writes its five fields; a second one is refused. -/
def Obligations.InitializeAcquiresInOrder : Prop :=
  (∀ (s : State) (cfg : InstanceConfig), s.life = .initialized →
    exec (.initDevice cfg) s =
      .next { s with refused := true, ends := s.ends ++ [.refused .alreadyInitialized] }) ∧
  (∀ (s : State) (cfg : InstanceConfig) (b g : Handle), s.life = .uninitialized →
    InitAnswers s.oracle (some b) (some g) .ok →
      exec (.initDevice cfg) s = .next { s with
        life := .initialized
        bus := some b
        gpio := some g
        busCfg := some { cpol := cfg.busCpol, cpha := cfg.busCpha, wordBits := 8, lines := .single, cs := cfg.busCs }
        dcOut := true
        trace := s.trace ++ initEvents cfg (some b) (some g) .ok
        oracle := s.oracle.advance 3
        ends := s.ends ++ [.returned .ok] }) ∧
  ∀ (s : State) (cfg : InstanceConfig) (b g : Option Handle) (c : Reply), s.life = .uninitialized →
    InitAnswers s.oracle b g c → (b = none ∨ g = none ∨ c = .err) →
      exec (.initDevice cfg) s = .next { s with
        trace := s.trace ++ initEvents cfg b g c
        oracle := s.oracle.advance (initEvents cfg b g c).length
        ends := s.ends ++ [.returned (.err .initError)] }

/-- R123, R124: unblank sends DISPLAY_ON and blank DISPLAY_OFF, and each writes the flag on `Ok` only; before
`initialize` both are refused. On an initialized block both complete for every combination of answers. -/
def Obligations.BlankingSendsAndRecords : Prop :=
  (∀ s : State, s.life = .uninitialized →
    exec .unblank s = .next { s with refused := true, ends := s.ends ++ [.refused .notInitialized] } ∧
    exec .blank s = .next { s with refused := true, ends := s.ends ++ [.refused .notInitialized] }) ∧
  ∀ (s : State) (g x q : Reply), s.life = .initialized →
    SendAnswers s.oracle 0 s.params.encDcChecked [] g x q →
      (exec .unblank s = .next { s with
        dc := sendDc g
        displayOn := if sendReply s.params.encDcChecked [] g x q = .ok then .on else s.displayOn
        trace := s.trace ++ sendEvents s.params.encDcChecked s.params.opcodes.displayOn [] g x q
        oracle := s.oracle.advance
          (sendEvents s.params.encDcChecked s.params.opcodes.displayOn [] g x q).length
        ends := s.ends ++ [.returned (if sendReply s.params.encDcChecked [] g x q = .ok then .ok
          else .err .ioError)] }) ∧
      exec .blank s = .next { s with
        dc := sendDc g
        displayOn := if sendReply s.params.encDcChecked [] g x q = .ok then .off else s.displayOn
        trace := s.trace ++ sendEvents s.params.encDcChecked s.params.opcodes.displayOff [] g x q
        oracle := s.oracle.advance
          (sendEvents s.params.encDcChecked s.params.opcodes.displayOff [] g x q).length
        ends := s.ends ++ [.returned (if sendReply s.params.encDcChecked [] g x q = .ok then .ok
          else .err .ioError)] }

/-- R131: every value is sent unchanged, and recorded on `Ok` only; before `initialize` the call is refused. On an
initialized block it completes for every combination of answers. -/
def Obligations.SetContrastSendsAndRecords : Prop :=
  (∀ (s : State) (v : Byte), s.life = .uninitialized →
    exec (.setContrast v) s = .next { s with refused := true, ends := s.ends ++ [.refused .notInitialized] }) ∧
  ∀ (s : State) (v : Byte) (g x q : Reply), s.life = .initialized →
    SendAnswers s.oracle 0 s.params.encDcChecked [v] g x q →
      exec (.setContrast v) s = .next { s with
        dc := sendDc g
        contrast := if sendReply s.params.encDcChecked [v] g x q = .ok then some v else s.contrast
        trace := s.trace ++ sendEvents s.params.encDcChecked s.params.opcodes.contrast [v] g x q
        oracle := s.oracle.advance
          (sendEvents s.params.encDcChecked s.params.opcodes.contrast [v] g x q).length
        ends := s.ends ++ [.returned (if sendReply s.params.encDcChecked [v] g x q = .ok then .ok
          else .err .ioError)] }

/-- R126: the three preconditions of `write` in their order; a refused write makes no collaborator call. -/
def Obligations.WritePreconditionsInOrder : Prop :=
  ∀ (s : State) (x y : HalfWord) (r : WriteRegion),
    (s.life = .uninitialized → exec (.write x y r) s =
      .next { s with refused := true, ends := s.ends ++ [.refused .notInitialized] }) ∧
    (s.life = .initialized → (r.buf = none ∨ r.bufSize = 0) → exec (.write x y r) s =
      .next { s with refused := true, ends := s.ends ++ [.refused .emptyBuffer] }) ∧
    (s.life = .initialized → r.buf ≠ none → r.bufSize ≠ 0 →
      ¬inRange s.params (computeWindow s.params x y r.pitch) → exec (.write x y r) s =
      .next { s with refused := true, ends := s.ends ++ [.refused .windowOutOfRange] })

/-- R127: an accepted `write` sends the row command, the column command and the payload, for every combination of
answers; only the payload phase decides the result and the final level, and no other field is written. Bytes past the end
of the buffer are free values (log 11); the rest of the payload is the buffer. -/
def Obligations.WriteSendsWindowThenPayload : Prop :=
  ∀ (s : State) (x y : HalfWord) (r : WriteRegion) (buf : List Byte) (g1 x1 q1 g2 x2 q2 up xd down : Reply),
    Accepted s x y r buf →
    let p := s.params
    let w := computeWindow p x y r.pitch
    let row := [windowByte w.rowStart, windowByte w.rowEnd]
    let col := [windowByte w.colStart, windowByte w.colEnd]
    let evs1 := sendEvents p.encDcChecked p.opcodes.rowAddr row g1 x1 q1
    let evs2 := sendEvents p.encDcChecked p.opcodes.colAddr col g2 x2 q2
    let n := evs1.length + evs2.length
    let evs3 := dataEvents (memRead (s.oracle.drawn + n) buf r.bufSize) up xd down
    SendAnswers s.oracle 0 p.encDcChecked row g1 x1 q1 →
    SendAnswers s.oracle evs1.length p.encDcChecked col g2 x2 q2 →
    DataAnswers s.oracle n up xd down →
      exec (.write x y r) s = .next { s with
        dc := dataDc up xd down
        trace := s.trace ++ (evs1 ++ evs2 ++ evs3)
        oracle := s.oracle.advance (n + evs3.length)
        ends := s.ends ++ [.returned (if dataReply up xd down = .ok then .ok else .err .ioError)] }

/-- R16, R50, R129: the payload of a buffer that holds `buf_size` bytes is those bytes, raw, in index order. -/
def Obligations.PayloadIsTheBuffer : Prop :=
  ∀ (drawn : Nat) (buf : List Byte) (n : Nat),
    (memRead drawn buf n).length = n ∧ (n ≤ buf.length → memRead drawn buf n = buf.take n) ∧
      ∀ k, k < n → k < buf.length → (memRead drawn buf n)[k]? = buf[k]?

/-- R128: whatever the addressing commands answered, the column command is sent after the row command and the payload phase
follows both, each with all its steps and nothing left out; the result and the final level are those of the payload phase
alone. -/
def Obligations.AddressingFailuresAreSwallowed : Prop :=
  ∀ (s t : State) (x y : HalfWord) (r : WriteRegion) (buf : List Byte), Accepted s x y r buf →
    exec (.write x y r) s = .next t →
      let p := s.params
      let w := computeWindow p x y r.pitch
      let row := [windowByte w.rowStart, windowByte w.rowEnd]
      let col := [windowByte w.colStart, windowByte w.colEnd]
      ∃ g1 x1 q1 g2 x2 q2 up xd down,
        let e1 := sendEvents p.encDcChecked p.opcodes.rowAddr row g1 x1 q1
        let e2 := sendEvents p.encDcChecked p.opcodes.colAddr col g2 x2 q2
        let n := e1.length + e2.length
        SendAnswers s.oracle 0 p.encDcChecked row g1 x1 q1 ∧
        SendAnswers s.oracle e1.length p.encDcChecked col g2 x2 q2 ∧
        DataAnswers s.oracle n up xd down ∧
        t.trace = s.trace ++ e1 ++ e2 ++ dataEvents (memRead (s.oracle.drawn + n) buf r.bufSize) up xd down ∧
        t.dc = dataDc up xd down ∧
        t.ends = s.ends ++ [.returned (if dataReply up xd down = .ok then .ok else .err .ioError)]

/-- R132: set_pixel_format completes, in every state, with `Ok` for `GRAY4` and `UnsupportedFormat` for every other
format, and changes no field of the block. -/
def Obligations.SetPixelFormatKnowsOneFormat : Prop :=
  ∀ s : State,
    exec (.setPixelFormat .gray4) s = .next { s with ends := s.ends ++ [.returned .ok] } ∧
    ∀ f, f ≠ .gray4 →
      exec (.setPixelFormat f) s = .next { s with ends := s.ends ++ [.returned (.err .unsupportedFormat)] }

/-- R133: get_capabilities completes in every state with the descriptor of the panel and no side effect. -/
def Obligations.GetCapabilitiesDescribesThePanel : Prop :=
  ∀ s : State, exec .getCapabilities s = .next { s with ends := s.ends ++ [.returned (.caps
    { xResolution := s.params.width, yResolution := s.params.height, supportedPixelFormats := [.gray4],
      currentPixelFormat := .gray4, screenInfo := .monoMsbFirst, currentOrientation := .normal })] }

/-- R134 to R137: read, get_framebuffer, set_brightness and set_orientation complete with `Unsupported`, in every state
and for every argument, without a side effect. -/
def Obligations.AbsentCapabilitiesAnswerUnsupported : Prop :=
  ∀ (s : State) (args : List Arg),
    exec (.read args) s = .next { s with ends := s.ends ++ [.returned (.err .unsupported)] } ∧
    exec .getFramebuffer s = .next { s with ends := s.ends ++ [.returned (.err .unsupported)] } ∧
    exec (.setBrightness args) s = .next { s with ends := s.ends ++ [.returned (.err .unsupported)] } ∧
    exec (.setOrientation args) s = .next { s with ends := s.ends ++ [.returned (.err .unsupported)] }

/-! ### The Addressing Translator -/

/-- R109: the range requirement in terms of the operands; for even operands, not past the right edge. -/
def Obligations.WindowInRangeByOperands : Prop :=
  ∀ (p : Params) (x y : HalfWord) (pitch : Option HalfWord), p.Valid →
    (inRange p (computeWindow p x y pitch) ↔
      y.toNat ≤ p.height - 1 ∧ x.toNat ≤ p.width - 1 ∧
        ∀ n, pitch = some n → 0 < n.toNat → n.toNat < p.width →
          1 ≤ x.toNat / 2 + n.toNat / 2 ∧ x.toNat / 2 + n.toNat / 2 ≤ p.width / 2) ∧
    ∀ n : HalfWord, x.toNat % 2 = 0 → n.toNat % 2 = 0 →
      (x.toNat / 2 + n.toNat / 2 ≤ p.width / 2 ↔ x.toNat + n.toNat ≤ p.width)

/-- R110: the source's window laws. -/
def Obligations.WindowLaws : Prop :=
  ∀ (p : Params) (x y n : HalfWord), p.Valid →
    (0 < n.toNat → n.toNat < p.width →
      (computeWindow p x y (some n)).colStart = (x.toNat / 2 : Nat) ∧
      (computeWindow p x y (some n)).colEnd = ((x.toNat / 2 : Nat) : Int) + ((n.toNat / 2 : Nat) : Int) - 1 ∧
      (computeWindow p x y (some n)).rowStart = y.toNat ∧
      (computeWindow p x y (some n)).rowEnd = (p.height : Int) - 1) ∧
    (p.width ≤ n.toNat ∨ n.toNat = 0 →
      (computeWindow p x y (some n)).colEnd = ((p.width / 2 : Nat) : Int) - 1)

/-- R107: odd operands are floored. -/
def Obligations.OddOperandsAreFloored : Prop :=
  ∀ (p : Params) (x y n : HalfWord) (pitch : Option HalfWord), p.Valid →
    (∀ k, x.toNat = 2 * k + 1 → (computeWindow p x y pitch).colStart = k) ∧
    (∀ m : HalfWord, n.toNat = m.toNat + 1 → m.toNat % 2 = 0 → 0 < m.toNat → n.toNat < p.width →
      (computeWindow p x y (some n)).colEnd = (computeWindow p x y (some m)).colEnd) ∧
    (n.toNat = 1 → (computeWindow p x y (some n)).colEnd = (computeWindow p x y (some n)).colStart - 1)

/-- R101: the column end is negative, and then -1, for a pitch of 1 at a column of 0 or 1 and nowhere else. -/
def Obligations.NegativeColumnEnd : Prop :=
  ∀ (p : Params) (x y : HalfWord) (pitch : Option HalfWord), p.Valid →
    ((computeWindow p x y pitch).colEnd < 0 ↔ x.toNat ≤ 1 ∧ pitch = some 1) ∧
    -1 ≤ (computeWindow p x y pitch).colEnd

/-- R112, R113: how wide the window is: `p / 2` column bytes, that is `p` pixels; and from the column byte `x / 2` to the
right edge, the whole panel for `x = 0`. -/
def Obligations.WindowWidth : Prop :=
  (∀ (p : Params) (x y n : HalfWord), p.Valid → x.toNat % 2 = 0 → n.toNat % 2 = 0 → 0 < n.toNat →
    n.toNat < p.width → inRange p (computeWindow p x y (some n)) →
      (computeWindow p x y (some n)).colEnd - (computeWindow p x y (some n)).colStart + 1 = (n.toNat / 2 : Nat) ∧
      2 * (n.toNat / 2) = n.toNat) ∧
  ∀ (p : Params) (x y : HalfWord) (pitch : Option HalfWord), p.Valid →
    (pitch = none ∨ ∃ n, pitch = some n ∧ (n.toNat = 0 ∨ p.width ≤ n.toNat)) →
      (computeWindow p x y pitch).colStart = (x.toNat / 2 : Nat) ∧
      (computeWindow p x y pitch).colEnd = ((p.width / 2 : Nat) : Int) - 1 ∧
      (x.toNat = 0 → (computeWindow p x y pitch).colEnd - (computeWindow p x y pitch).colStart + 1 =
        (p.width / 2 : Nat))

/-- R68, R56, R108: what an accepted `write` sends in command mode is the two opcodes and two pairs of bytes, which are
the window's values and lie inside the panel. -/
def Obligations.WindowSentLiesInsideThePanel : Prop :=
  ∀ (s t : State) (x y : HalfWord) (r : WriteRegion) (buf : List Byte) (evs : List Event), s.params.Valid →
    Accepted s x y r buf → exec (.write x y r) s = .next t → t.trace = s.trace ++ evs →
      ∃ cs ce rs re : Byte,
        cs.toNat = x.toNat / 2 ∧ (ce.toNat : Int) = (computeWindow s.params x y r.pitch).colEnd ∧
        rs.toNat = y.toNat ∧ re.toNat = s.params.height - 1 ∧
        cs.toNat < s.params.width / 2 ∧ ce.toNat < s.params.width / 2 ∧ rs.toNat < s.params.height ∧
        ∀ d b a, Event.xfer d b a ∈ evs → d ≠ .data →
          b = [s.params.opcodes.rowAddr] ∨ b = [rs, re] ∨ b = [s.params.opcodes.colAddr] ∨ b = [cs, ce]

/-! ### Rules of the whole machine -/

/-- R35: every step keeps the invariants of the reachable states. -/
def Obligations.StepKeepsInvariant : Prop :=
  ∀ s t : State, s.Inv → step s = .next t → t.Inv

/-- R35: the invariants hold of every reachable state, whatever the instance, the host's calls and the answers. -/
def Obligations.ReachableStatesMeetInvariant : Prop :=
  ∀ (p : Params) (s : State), Reachable p s → s.Inv ∧ s.params = p

/-- R30: every collaborator call appends exactly one event and nothing removes one. -/
def Obligations.TraceOnlyGrows : Prop :=
  ∀ s t : State, step s = .next t →
    ∃ evs, t.trace = s.trace ++ evs ∧ t.oracle = s.oracle.advance evs.length ∧ evs.length ≤ 9

/-- R31, R166: the refusal mark is never cleared; a refused call sets it and changes nothing else of the block, its trace
included; and nothing else sets it. -/
def Obligations.RefusalMarkIsSticky : Prop :=
  (∀ s t : State, s.refused = true → step s = .next t → t.refused = true) ∧
  ∀ (i : Instr) (s t : State), exec i s = .next t →
    (∃ why, t = { s with refused := true, ends := s.ends ++ [.refused why] }) ∨
    (t.refused = s.refused ∧ ∃ res, t.ends = s.ends ++ [.returned res])

/-- R22: only a successful `initialize` writes `life`, from Uninitialized to Initialized. -/
def Obligations.OnlyInitializeLeavesUninitialized : Prop :=
  ∀ (i : Instr) (s t : State), exec i s = .next t → t.life ≠ s.life →
    (∃ cfg, i = .initDevice cfg) ∧ s.life = .uninitialized ∧ t.life = .initialized ∧
      t.ends = s.ends ++ [.returned .ok]

/-- R22 to R25: once the block is initialized, no step changes its lifecycle, handles, bus configuration or pin. -/
def Obligations.AcquiredFieldsStay : Prop :=
  ∀ s t : State, s.life = .initialized → step s = .next t →
    t.life = s.life ∧ t.bus = s.bus ∧ t.gpio = s.gpio ∧ t.busCfg = s.busCfg ∧ t.dcOut = s.dcOut

/-- R33: who writes what. The frame of every instruction over every oracle. -/
def Obligations.FieldsWrittenByTheAccessTable : Prop :=
  ∀ (i : Instr) (s t : State), exec i s = .next t →
    ((∀ cfg, i ≠ .initDevice cfg) →
      t.life = s.life ∧ t.bus = s.bus ∧ t.gpio = s.gpio ∧ t.busCfg = s.busCfg ∧ t.dcOut = s.dcOut) ∧
    (touchesNothing i = true ∨ (∃ cfg, i = .initDevice cfg) → t.dc = s.dc) ∧
    (touchesNothing i = true → t.trace = s.trace ∧ t.oracle = s.oracle ∧ t.refused = s.refused) ∧
    ((∀ v, i ≠ .setContrast v) → t.contrast = s.contrast) ∧
    (i ≠ .unblank → i ≠ .blank → t.displayOn = s.displayOn) ∧
    t.params = s.params ∧ t.inbox = s.inbox ∧ t.bench = s.bench

/-- R161: which operation returns which error. -/
def Obligations.ErrorsByOperation : Prop :=
  ∀ (i : Instr) (s t : State) (k : ErrorKind), exec i s = .next t →
    t.ends = s.ends ++ [.returned (.err k)] → errorOf i = some k

/-- Every instruction completes when the collaborators return: nine answers are as many as any one asks for (R127). No
instruction is refused by the model. -/
def Obligations.EveryInstructionCompletes : Prop :=
  ∀ (i : Instr) (s : State), (∀ k, k < 9 → s.oracle.answer k ≠ .never) → ∃ t, exec i s = .next t

/-- R190, D24: a collaborator call that never returns leaves the block stuck. It is the only way an instruction stops
(the form of the stop is log 4). -/
def Obligations.OnlyAHungCallStops : Prop :=
  (∀ (i : Instr) (s : State) (f : Fault), exec i s = .fault f → ∃ k, k < 9 ∧ s.oracle.answer k = .never) ∧
  (∀ (i : Instr) (s : State) (r : Refusal), exec i s ≠ .refused r) ∧
  (∀ (s : State) (cfg : InstanceConfig), s.life = .uninitialized → s.oracle.answer 0 = .never →
    exec (.initDevice cfg) s = .fault .collaboratorNeverReturns) ∧
  (∀ (s : State) (i : Instr), (isWire i = true ∨ i = .unblank ∨ i = .blank ∨ ∃ v, i = .setContrast v) →
    s.life = .initialized → s.oracle.answer 0 = .never → exec i s = .fault .collaboratorNeverReturns) ∧
  ∀ (s : State) (x y : HalfWord) (r : WriteRegion) (buf : List Byte), Accepted s x y r buf →
    s.oracle.answer 0 = .never → exec (.write x y r) s = .fault .collaboratorNeverReturns

/-- R185: no command byte is on the wire in data mode, and no payload in command mode. An instruction without a payload
makes no transfer in data mode. DATA makes its transfer in data mode. An accepted `write` first makes its addressing
transfers, none of them in data mode and each an opcode or a parameter pair of the window, and then its payload phase,
whose one transfer is the payload in data mode. -/
def Obligations.DiscriminatorSequencing : Prop :=
  (∀ (i : Instr) (s t : State) (evs : List Event), (∀ bs, i ≠ .data bs) → (∀ x y r, i ≠ .write x y r) →
    exec i s = .next t → t.trace = s.trace ++ evs → ∀ b a, Event.xfer .data b a ∉ evs) ∧
  (∀ (s t : State) (bs : List Byte) (evs : List Event), exec (.data bs) s = .next t → t.trace = s.trace ++ evs →
    ∀ d b a, Event.xfer d b a ∈ evs → d = .data ∧ b = bs) ∧
  ∀ (s t : State) (x y : HalfWord) (r : WriteRegion) (buf : List Byte) (evs : List Event), Accepted s x y r buf →
    exec (.write x y r) s = .next t → t.trace = s.trace ++ evs →
      let w := computeWindow s.params x y r.pitch
      ∃ pre up xd down,
        evs = pre ++ dataEvents (memRead (s.oracle.drawn + pre.length) buf r.bufSize) up xd down ∧
        ∀ d b a, Event.xfer d b a ∈ pre → d ≠ .data ∧
          (b = [s.params.opcodes.rowAddr] ∨ b = [windowByte w.rowStart, windowByte w.rowEnd] ∨
            b = [s.params.opcodes.colAddr] ∨ b = [windowByte w.colStart, windowByte w.colEnd])

/-- R40, R53: every transfer of a well-formed instruction holds a byte at least. -/
def Obligations.TransfersAreNeverEmpty : Prop :=
  ∀ (i : Instr) (s t : State) (evs : List Event), wellFormed s.params i = true → exec i s = .next t →
    t.trace = s.trace ++ evs → ∀ d b a, Event.xfer d b a ∈ evs → b ≠ []

/-- R139, R184: no result and no event depends on the contrast record, the Blanked/Active flag, the level of the line
before, the refusal mark or the handles. -/
def Obligations.RecordsDoNotInterfere : Prop :=
  ∀ (i : Instr) (s t : State) (c : Option Byte) (d : Display) (l : Dc) (m : Bool) (b g : Option Handle),
    exec i s = .next t →
      ∃ t', exec i { s with contrast := c, displayOn := d, dc := l, refused := m, bus := b, gpio := g } = .next t' ∧
        t'.trace = t.trace ∧ t'.ends = t.ends ∧ t'.oracle = t.oracle ∧ t'.life = t.life

/-- R70: as long as every collaborator has answered `Ok`, the trace decodes without refusal, and every step keeps it so. -/
def Obligations.StepKeepsTraceDecodable : Prop :=
  ∀ s t : State, s.params.Valid → s.WireOk → step s = .next t → t.WireOk

/-- R70: of every reachable state of every valid instance. -/
def Obligations.ReachableTracesDecode : Prop :=
  ∀ (p : Params) (s : State), p.Valid → Reachable p s → (∀ e ∈ s.trace, e.isOk = true) →
    ∃ is, wireProgram p s.trace = .ok is

/-- R76, R72: when every collaborator answers `Ok`, the receiving side decodes what an instruction put on the wire to
exactly its expansion; and no host operation's expansion holds a REMAP. -/
def Obligations.WireTrafficIsTheExpansion : Prop :=
  ∀ (i : Instr) (s t : State) (evs : List Event), s.params.Valid → wellFormed s.params i = true →
    (∀ x y r buf, i = .write x y r → r.buf = some buf → r.bufSize ≤ buf.length) →
    exec i s = .next t → t.trace = s.trace ++ evs → (∃ res, t.ends = s.ends ++ [.returned res]) →
    (∀ e ∈ evs, e.isOk = true) →
      wireProgram s.params evs = .ok (expansion s.params i) ∧
      (isWire i = false → ∀ ps, Instr.remap ps ∉ expansion s.params i)

/-- Words of eight bits (R11), sent in the order of the sequence (R51): eight bits a byte, and the bits on the line say
which bytes were sent. That BUS_BIT_ORDER is one of two orders, over which the statement ranges, is the model's choice
(log 22): R11 and R51 leave it open and name no values. -/
def Obligations.LineBitsDetermineTheBytes : Prop :=
  ∀ (p : Params) (a b : List Byte),
    (lineBits p a).length = 8 * a.length ∧ (lineBits p a = lineBits p b → a = b)

/-! ### What the host cannot ask for -/

/-- R80, R73: no call of the host is a wire command or a payload, and no run of the host has one run by itself. -/
def Obligations.HostCannotCallTheEncoder : Prop :=
  (∀ (p : Params) (c : Call) (i : Instr), decode p (.call c) = .ok i → isWire i = false) ∧
  ∀ (p : Params) (s t : State), Reachable p s → step s = .next t →
    s.bench = none ∧ (t = s ∨ t = s.taken.refuse .concurrentCall ∨
      ∃ i, isWire i = false ∧ exec i s.taken = .next t)

/-- R72: every step of a block that its host drives sends none but the five opcodes, whatever was answered. -/
def Obligations.StepSendsOnlyTheFiveOpcodes : Prop :=
  ∀ s t : State, s.HostDriven → step s = .next t → t.HostDriven

/-- R66, R72, R90: no reachable trace of a valid instance holds the opcode of REMAP, or any byte but the five in opcode
position. -/
def Obligations.ReachableTracesHoldNoRemap : Prop :=
  ∀ (p : Params) (s : State), p.Valid → Reachable p s →
    p.opcodes.remap ∉ opcodesSent s.trace ∧ ∀ b ∈ opcodesSent s.trace, b ∈ emittedOpcodes p.opcodes

/-- What "opcode position" means in the statements above: `send` puts its opcode there, exactly if it begins the opcode
transfer, and `send_data` puts nothing there, whatever was answered. -/
def Obligations.OpcodePositionIsTheOpcodeTransfer : Prop :=
  (∀ (checked : Bool) (opc : Byte) (ps : List Byte) (g x q : Reply),
    opcodesSent (sendEvents checked opc ps g x q) = if checked = true ∧ g = .err then [] else [opc]) ∧
  (∀ (bytes : List Byte) (up x down : Reply), opcodesSent (dataEvents bytes up x down) = []) ∧
  ∀ (a b : List Event) (e : Event), (∀ d bs ans, e ≠ .xfer d bs ans) →
    opcodesSent (a ++ e :: b) = opcodesSent a ++ opcodesSent (e :: b)
end

