-- ==== Sys2Proof/Laws/State.lean ====
section
/-! SUPPORT. One lemma per field per update of State, so that no proof unfolds a record update. -/
namespace Sys2Proof.Machine

@[simp] theorem State.called_life (e : Event) (s : State) : (s.called e).life = s.life := rfl
@[simp] theorem State.called_bus (e : Event) (s : State) : (s.called e).bus = s.bus := rfl
@[simp] theorem State.called_gpio (e : Event) (s : State) : (s.called e).gpio = s.gpio := rfl
@[simp] theorem State.called_busCfg (e : Event) (s : State) : (s.called e).busCfg = s.busCfg := rfl
@[simp] theorem State.called_dcOut (e : Event) (s : State) : (s.called e).dcOut = s.dcOut := rfl
@[simp] theorem State.called_dc (e : Event) (s : State) : (s.called e).dc = s.dc := rfl
@[simp] theorem State.called_contrast (e : Event) (s : State) : (s.called e).contrast = s.contrast := rfl
@[simp] theorem State.called_displayOn (e : Event) (s : State) : (s.called e).displayOn = s.displayOn := rfl
@[simp] theorem State.called_trace (e : Event) (s : State) : (s.called e).trace = s.trace ++ [e] := rfl
@[simp] theorem State.called_refused (e : Event) (s : State) : (s.called e).refused = s.refused := rfl
@[simp] theorem State.called_params (e : Event) (s : State) : (s.called e).params = s.params := rfl
@[simp] theorem State.called_oracle (e : Event) (s : State) : (s.called e).oracle = s.oracle.advance 1 := rfl
@[simp] theorem State.called_inbox (e : Event) (s : State) : (s.called e).inbox = s.inbox := rfl
@[simp] theorem State.called_bench (e : Event) (s : State) : (s.called e).bench = s.bench := rfl
@[simp] theorem State.called_ends (e : Event) (s : State) : (s.called e).ends = s.ends := rfl

@[simp] theorem State.drive_life (d : Dc) (s : State) : (s.drive d).life = s.life := rfl
@[simp] theorem State.drive_bus (d : Dc) (s : State) : (s.drive d).bus = s.bus := rfl
@[simp] theorem State.drive_gpio (d : Dc) (s : State) : (s.drive d).gpio = s.gpio := rfl
@[simp] theorem State.drive_busCfg (d : Dc) (s : State) : (s.drive d).busCfg = s.busCfg := rfl
@[simp] theorem State.drive_dcOut (d : Dc) (s : State) : (s.drive d).dcOut = s.dcOut := rfl
@[simp] theorem State.drive_dc (d : Dc) (s : State) : (s.drive d).dc = d := rfl
@[simp] theorem State.drive_contrast (d : Dc) (s : State) : (s.drive d).contrast = s.contrast := rfl
@[simp] theorem State.drive_displayOn (d : Dc) (s : State) : (s.drive d).displayOn = s.displayOn := rfl
@[simp] theorem State.drive_trace (d : Dc) (s : State) : (s.drive d).trace = s.trace := rfl
@[simp] theorem State.drive_refused (d : Dc) (s : State) : (s.drive d).refused = s.refused := rfl
@[simp] theorem State.drive_params (d : Dc) (s : State) : (s.drive d).params = s.params := rfl
@[simp] theorem State.drive_oracle (d : Dc) (s : State) : (s.drive d).oracle = s.oracle := rfl
@[simp] theorem State.drive_inbox (d : Dc) (s : State) : (s.drive d).inbox = s.inbox := rfl
@[simp] theorem State.drive_bench (d : Dc) (s : State) : (s.drive d).bench = s.bench := rfl
@[simp] theorem State.drive_ends (d : Dc) (s : State) : (s.drive d).ends = s.ends := rfl

@[simp] theorem State.ret_life (r : Result) (s : State) : (s.ret r).life = s.life := rfl
@[simp] theorem State.ret_bus (r : Result) (s : State) : (s.ret r).bus = s.bus := rfl
@[simp] theorem State.ret_gpio (r : Result) (s : State) : (s.ret r).gpio = s.gpio := rfl
@[simp] theorem State.ret_busCfg (r : Result) (s : State) : (s.ret r).busCfg = s.busCfg := rfl
@[simp] theorem State.ret_dcOut (r : Result) (s : State) : (s.ret r).dcOut = s.dcOut := rfl
@[simp] theorem State.ret_dc (r : Result) (s : State) : (s.ret r).dc = s.dc := rfl
@[simp] theorem State.ret_contrast (r : Result) (s : State) : (s.ret r).contrast = s.contrast := rfl
@[simp] theorem State.ret_displayOn (r : Result) (s : State) : (s.ret r).displayOn = s.displayOn := rfl
@[simp] theorem State.ret_trace (r : Result) (s : State) : (s.ret r).trace = s.trace := rfl
@[simp] theorem State.ret_refused (r : Result) (s : State) : (s.ret r).refused = s.refused := rfl
@[simp] theorem State.ret_params (r : Result) (s : State) : (s.ret r).params = s.params := rfl
@[simp] theorem State.ret_oracle (r : Result) (s : State) : (s.ret r).oracle = s.oracle := rfl
@[simp] theorem State.ret_inbox (r : Result) (s : State) : (s.ret r).inbox = s.inbox := rfl
@[simp] theorem State.ret_bench (r : Result) (s : State) : (s.ret r).bench = s.bench := rfl
@[simp] theorem State.ret_ends (r : Result) (s : State) : (s.ret r).ends = s.ends ++ [.returned r] := rfl

@[simp] theorem State.refuse_life (why : RefuseReason) (s : State) : (s.refuse why).life = s.life := rfl
@[simp] theorem State.refuse_bus (why : RefuseReason) (s : State) : (s.refuse why).bus = s.bus := rfl
@[simp] theorem State.refuse_gpio (why : RefuseReason) (s : State) : (s.refuse why).gpio = s.gpio := rfl
@[simp] theorem State.refuse_busCfg (why : RefuseReason) (s : State) : (s.refuse why).busCfg = s.busCfg := rfl
@[simp] theorem State.refuse_dcOut (why : RefuseReason) (s : State) : (s.refuse why).dcOut = s.dcOut := rfl
@[simp] theorem State.refuse_dc (why : RefuseReason) (s : State) : (s.refuse why).dc = s.dc := rfl
@[simp] theorem State.refuse_contrast (why : RefuseReason) (s : State) : (s.refuse why).contrast = s.contrast := rfl
@[simp] theorem State.refuse_displayOn (why : RefuseReason) (s : State) : (s.refuse why).displayOn = s.displayOn := rfl
@[simp] theorem State.refuse_trace (why : RefuseReason) (s : State) : (s.refuse why).trace = s.trace := rfl
@[simp] theorem State.refuse_refused (why : RefuseReason) (s : State) : (s.refuse why).refused = true := rfl
@[simp] theorem State.refuse_params (why : RefuseReason) (s : State) : (s.refuse why).params = s.params := rfl
@[simp] theorem State.refuse_oracle (why : RefuseReason) (s : State) : (s.refuse why).oracle = s.oracle := rfl
@[simp] theorem State.refuse_inbox (why : RefuseReason) (s : State) : (s.refuse why).inbox = s.inbox := rfl
@[simp] theorem State.refuse_bench (why : RefuseReason) (s : State) : (s.refuse why).bench = s.bench := rfl
@[simp] theorem State.refuse_ends (why : RefuseReason) (s : State) : (s.refuse why).ends = s.ends ++ [.refused why] := rfl

@[simp] theorem State.setDisplay_life (d : Display) (s : State) : (s.setDisplay d).life = s.life := rfl
@[simp] theorem State.setDisplay_bus (d : Display) (s : State) : (s.setDisplay d).bus = s.bus := rfl
@[simp] theorem State.setDisplay_gpio (d : Display) (s : State) : (s.setDisplay d).gpio = s.gpio := rfl
@[simp] theorem State.setDisplay_busCfg (d : Display) (s : State) : (s.setDisplay d).busCfg = s.busCfg := rfl
@[simp] theorem State.setDisplay_dcOut (d : Display) (s : State) : (s.setDisplay d).dcOut = s.dcOut := rfl
@[simp] theorem State.setDisplay_dc (d : Display) (s : State) : (s.setDisplay d).dc = s.dc := rfl
@[simp] theorem State.setDisplay_contrast (d : Display) (s : State) : (s.setDisplay d).contrast = s.contrast := rfl
@[simp] theorem State.setDisplay_displayOn (d : Display) (s : State) : (s.setDisplay d).displayOn = d := rfl
@[simp] theorem State.setDisplay_trace (d : Display) (s : State) : (s.setDisplay d).trace = s.trace := rfl
@[simp] theorem State.setDisplay_refused (d : Display) (s : State) : (s.setDisplay d).refused = s.refused := rfl
@[simp] theorem State.setDisplay_params (d : Display) (s : State) : (s.setDisplay d).params = s.params := rfl
@[simp] theorem State.setDisplay_oracle (d : Display) (s : State) : (s.setDisplay d).oracle = s.oracle := rfl
@[simp] theorem State.setDisplay_inbox (d : Display) (s : State) : (s.setDisplay d).inbox = s.inbox := rfl
@[simp] theorem State.setDisplay_bench (d : Display) (s : State) : (s.setDisplay d).bench = s.bench := rfl
@[simp] theorem State.setDisplay_ends (d : Display) (s : State) : (s.setDisplay d).ends = s.ends := rfl

@[simp] theorem State.setContrast_life (v : Byte) (s : State) : (s.setContrast v).life = s.life := rfl
@[simp] theorem State.setContrast_bus (v : Byte) (s : State) : (s.setContrast v).bus = s.bus := rfl
@[simp] theorem State.setContrast_gpio (v : Byte) (s : State) : (s.setContrast v).gpio = s.gpio := rfl
@[simp] theorem State.setContrast_busCfg (v : Byte) (s : State) : (s.setContrast v).busCfg = s.busCfg := rfl
@[simp] theorem State.setContrast_dcOut (v : Byte) (s : State) : (s.setContrast v).dcOut = s.dcOut := rfl
@[simp] theorem State.setContrast_dc (v : Byte) (s : State) : (s.setContrast v).dc = s.dc := rfl
@[simp] theorem State.setContrast_contrast (v : Byte) (s : State) : (s.setContrast v).contrast = some v := rfl
@[simp] theorem State.setContrast_displayOn (v : Byte) (s : State) : (s.setContrast v).displayOn = s.displayOn := rfl
@[simp] theorem State.setContrast_trace (v : Byte) (s : State) : (s.setContrast v).trace = s.trace := rfl
@[simp] theorem State.setContrast_refused (v : Byte) (s : State) : (s.setContrast v).refused = s.refused := rfl
@[simp] theorem State.setContrast_params (v : Byte) (s : State) : (s.setContrast v).params = s.params := rfl
@[simp] theorem State.setContrast_oracle (v : Byte) (s : State) : (s.setContrast v).oracle = s.oracle := rfl
@[simp] theorem State.setContrast_inbox (v : Byte) (s : State) : (s.setContrast v).inbox = s.inbox := rfl
@[simp] theorem State.setContrast_bench (v : Byte) (s : State) : (s.setContrast v).bench = s.bench := rfl
@[simp] theorem State.setContrast_ends (v : Byte) (s : State) : (s.setContrast v).ends = s.ends := rfl

@[simp] theorem State.acquire_life (b g : Handle) (c : BusConfig) (s : State) : (s.acquire b g c).life = .initialized := rfl
@[simp] theorem State.acquire_bus (b g : Handle) (c : BusConfig) (s : State) : (s.acquire b g c).bus = some b := rfl
@[simp] theorem State.acquire_gpio (b g : Handle) (c : BusConfig) (s : State) : (s.acquire b g c).gpio = some g := rfl
@[simp] theorem State.acquire_busCfg (b g : Handle) (c : BusConfig) (s : State) : (s.acquire b g c).busCfg = some c := rfl
@[simp] theorem State.acquire_dcOut (b g : Handle) (c : BusConfig) (s : State) : (s.acquire b g c).dcOut = true := rfl
@[simp] theorem State.acquire_dc (b g : Handle) (c : BusConfig) (s : State) : (s.acquire b g c).dc = s.dc := rfl
@[simp] theorem State.acquire_contrast (b g : Handle) (c : BusConfig) (s : State) : (s.acquire b g c).contrast = s.contrast := rfl
@[simp] theorem State.acquire_displayOn (b g : Handle) (c : BusConfig) (s : State) : (s.acquire b g c).displayOn = s.displayOn := rfl
@[simp] theorem State.acquire_trace (b g : Handle) (c : BusConfig) (s : State) : (s.acquire b g c).trace = s.trace := rfl
@[simp] theorem State.acquire_refused (b g : Handle) (c : BusConfig) (s : State) : (s.acquire b g c).refused = s.refused := rfl
@[simp] theorem State.acquire_params (b g : Handle) (c : BusConfig) (s : State) : (s.acquire b g c).params = s.params := rfl
@[simp] theorem State.acquire_oracle (b g : Handle) (c : BusConfig) (s : State) : (s.acquire b g c).oracle = s.oracle := rfl
@[simp] theorem State.acquire_inbox (b g : Handle) (c : BusConfig) (s : State) : (s.acquire b g c).inbox = s.inbox := rfl
@[simp] theorem State.acquire_bench (b g : Handle) (c : BusConfig) (s : State) : (s.acquire b g c).bench = s.bench := rfl
@[simp] theorem State.acquire_ends (b g : Handle) (c : BusConfig) (s : State) : (s.acquire b g c).ends = s.ends := rfl

@[simp] theorem State.taken_life (s : State) : (s.taken).life = s.life := rfl
@[simp] theorem State.taken_bus (s : State) : (s.taken).bus = s.bus := rfl
@[simp] theorem State.taken_gpio (s : State) : (s.taken).gpio = s.gpio := rfl
@[simp] theorem State.taken_busCfg (s : State) : (s.taken).busCfg = s.busCfg := rfl
@[simp] theorem State.taken_dcOut (s : State) : (s.taken).dcOut = s.dcOut := rfl
@[simp] theorem State.taken_dc (s : State) : (s.taken).dc = s.dc := rfl
@[simp] theorem State.taken_contrast (s : State) : (s.taken).contrast = s.contrast := rfl
@[simp] theorem State.taken_displayOn (s : State) : (s.taken).displayOn = s.displayOn := rfl
@[simp] theorem State.taken_trace (s : State) : (s.taken).trace = s.trace := rfl
@[simp] theorem State.taken_refused (s : State) : (s.taken).refused = s.refused := rfl
@[simp] theorem State.taken_params (s : State) : (s.taken).params = s.params := rfl
@[simp] theorem State.taken_oracle (s : State) : (s.taken).oracle = s.oracle := rfl
@[simp] theorem State.taken_inbox (s : State) :
    (s.taken).inbox = if s.bench.isSome then s.inbox else s.inbox.tail := rfl
@[simp] theorem State.taken_bench (s : State) : (s.taken).bench = none := rfl
@[simp] theorem State.taken_ends (s : State) : (s.taken).ends = s.ends := rfl

@[simp] theorem State.withRequest_life (s : State) (r : Request) : (s.withRequest r).life = s.life := rfl
@[simp] theorem State.withRequest_bus (s : State) (r : Request) : (s.withRequest r).bus = s.bus := rfl
@[simp] theorem State.withRequest_gpio (s : State) (r : Request) : (s.withRequest r).gpio = s.gpio := rfl
@[simp] theorem State.withRequest_busCfg (s : State) (r : Request) : (s.withRequest r).busCfg = s.busCfg := rfl
@[simp] theorem State.withRequest_dcOut (s : State) (r : Request) : (s.withRequest r).dcOut = s.dcOut := rfl
@[simp] theorem State.withRequest_dc (s : State) (r : Request) : (s.withRequest r).dc = s.dc := rfl
@[simp] theorem State.withRequest_contrast (s : State) (r : Request) : (s.withRequest r).contrast = s.contrast := rfl
@[simp] theorem State.withRequest_displayOn (s : State) (r : Request) : (s.withRequest r).displayOn = s.displayOn := rfl
@[simp] theorem State.withRequest_trace (s : State) (r : Request) : (s.withRequest r).trace = s.trace := rfl
@[simp] theorem State.withRequest_refused (s : State) (r : Request) : (s.withRequest r).refused = s.refused := rfl
@[simp] theorem State.withRequest_params (s : State) (r : Request) : (s.withRequest r).params = s.params := rfl
@[simp] theorem State.withRequest_oracle (s : State) (r : Request) : (s.withRequest r).oracle = s.oracle := rfl
@[simp] theorem State.withRequest_inbox (s : State) (r : Request) : (s.withRequest r).inbox = r :: s.inbox := rfl
@[simp] theorem State.withRequest_bench (s : State) (r : Request) : (s.withRequest r).bench = s.bench := rfl
@[simp] theorem State.withRequest_ends (s : State) (r : Request) : (s.withRequest r).ends = s.ends := rfl

@[simp] theorem State.withBench_life (s : State) (b : BenchWord) : (s.withBench b).life = s.life := rfl
@[simp] theorem State.withBench_bus (s : State) (b : BenchWord) : (s.withBench b).bus = s.bus := rfl
@[simp] theorem State.withBench_gpio (s : State) (b : BenchWord) : (s.withBench b).gpio = s.gpio := rfl
@[simp] theorem State.withBench_busCfg (s : State) (b : BenchWord) : (s.withBench b).busCfg = s.busCfg := rfl
@[simp] theorem State.withBench_dcOut (s : State) (b : BenchWord) : (s.withBench b).dcOut = s.dcOut := rfl
@[simp] theorem State.withBench_dc (s : State) (b : BenchWord) : (s.withBench b).dc = s.dc := rfl
@[simp] theorem State.withBench_contrast (s : State) (b : BenchWord) : (s.withBench b).contrast = s.contrast := rfl
@[simp] theorem State.withBench_displayOn (s : State) (b : BenchWord) : (s.withBench b).displayOn = s.displayOn := rfl
@[simp] theorem State.withBench_trace (s : State) (b : BenchWord) : (s.withBench b).trace = s.trace := rfl
@[simp] theorem State.withBench_refused (s : State) (b : BenchWord) : (s.withBench b).refused = s.refused := rfl
@[simp] theorem State.withBench_params (s : State) (b : BenchWord) : (s.withBench b).params = s.params := rfl
@[simp] theorem State.withBench_oracle (s : State) (b : BenchWord) : (s.withBench b).oracle = s.oracle := rfl
@[simp] theorem State.withBench_inbox (s : State) (b : BenchWord) : (s.withBench b).inbox = s.inbox := rfl
@[simp] theorem State.withBench_ends (s : State) (b : BenchWord) : (s.withBench b).ends = s.ends := rfl
@[simp] theorem State.withBench_bench (s : State) (b : BenchWord) : (s.withBench b).bench = some b := rfl

end Sys2Proof.Machine
end

