-- ==== Sys2Proof/Laws/Ops.lean ====
section
/-! SUPPORT. What each shared operation can do, said once: the oracle, the collaborator primitives, `send`, `sendData`,
`acquireAll`, `writeRegion`, and the gate. -/
namespace Sys2Proof.Machine

/-! ### The oracle -/

@[simp] theorem Oracle.advance_zero (o : Oracle) : o.advance 0 = o := by
  simp [Oracle.advance]

@[simp] theorem Oracle.advance_advance (o : Oracle) (m n : Nat) : (o.advance m).advance n = o.advance (m + n) := by
  simp [Oracle.advance, List.drop_drop, Nat.add_assoc]

@[simp] theorem Oracle.advance_drawn (o : Oracle) (n : Nat) : (o.advance n).drawn = o.drawn + n := rfl

@[simp] theorem Oracle.answer_advance (o : Oracle) (n k : Nat) : (o.advance n).answer k = o.answer (n + k) := by
  simp [Oracle.answer, Oracle.advance, List.getElem?_drop, Nat.add_assoc]

theorem replyOf_eq_none {a : Answer} : replyOf a = none ↔ a = .never := by
  cases a <;> simp [replyOf]

theorem lookupOf_eq_none {a : Answer} : lookupOf a = none ↔ a = .never := by
  cases a <;> simp [lookupOf]

/-! ### The collaborator primitives -/

theorem gpioSet_eq (level : Level) (s : State) {g : Reply} (h : replyOf (s.oracle.answer 0) = some g) :
    gpioSet level s = some (g, (s.called (.setDC level g)).drive (dcAfter level g)) := by
  simp [gpioSet, h]

theorem busTransfer_eq (bytes : List Byte) (s : State) {x : Reply} (h : replyOf (s.oracle.answer 0) = some x) :
    busTransfer bytes s = some (x, s.called (.xfer s.dc bytes x)) := by
  simp [busTransfer, h]

theorem gpioSet_eq_some {level : Level} {s t : State} {g : Reply} (h : gpioSet level s = some (g, t)) :
    replyOf (s.oracle.answer 0) = some g ∧ t = (s.called (.setDC level g)).drive (dcAfter level g) := by
  simp only [gpioSet, Option.map_eq_some_iff, Prod.mk.injEq] at h
  obtain ⟨a, ha, rfl, rfl⟩ := h
  exact ⟨ha, rfl⟩

theorem gpioSet_eq_none {level : Level} {s : State} : gpioSet level s = none ↔ s.oracle.answer 0 = .never := by
  simp [gpioSet, replyOf_eq_none]

theorem busTransfer_eq_some {bytes : List Byte} {s t : State} {x : Reply} (h : busTransfer bytes s = some (x, t)) :
    replyOf (s.oracle.answer 0) = some x ∧ t = s.called (.xfer s.dc bytes x) := by
  simp only [busTransfer, Option.map_eq_some_iff, Prod.mk.injEq] at h
  obtain ⟨a, ha, rfl, rfl⟩ := h
  exact ⟨ha, rfl⟩

theorem busTransfer_eq_none {bytes : List Byte} {s : State} :
    busTransfer bytes s = none ↔ s.oracle.answer 0 = .never := by
  simp [busTransfer, replyOf_eq_none]

theorem gpioConfigureOutput_eq_some {s t : State} {c : Reply} (h : gpioConfigureOutput s = some (c, t)) :
    replyOf (s.oracle.answer 0) = some c ∧ t = s.called (.cfgOut c) := by
  simp only [gpioConfigureOutput, Option.map_eq_some_iff, Prod.mk.injEq] at h
  obtain ⟨a, ha, rfl, rfl⟩ := h
  exact ⟨ha, rfl⟩

theorem getBusHandle_eq_some {name : String} {s t : State} {b : Option Handle}
    (h : getBusHandle name s = some (b, t)) :
    lookupOf (s.oracle.answer 0) = some b ∧ t = s.called (.getBus name b.isSome) := by
  simp only [getBusHandle, Option.map_eq_some_iff, Prod.mk.injEq] at h
  obtain ⟨a, ha, rfl, rfl⟩ := h
  exact ⟨ha, rfl⟩

theorem getGpioHandle_eq_some {name : String} {s t : State} {g : Option Handle}
    (h : getGpioHandle name s = some (g, t)) :
    lookupOf (s.oracle.answer 0) = some g ∧ t = s.called (.getGpio name g.isSome) := by
  simp only [getGpioHandle, Option.map_eq_some_iff, Prod.mk.injEq] at h
  obtain ⟨a, ha, rfl, rfl⟩ := h
  exact ⟨ha, rfl⟩

/-! ### `send` and `sendData` -/

/-- Every way in which `send` comes back: the calls it made, in order, with their answers. -/
theorem send_cases {opc : Byte} {ps : List Byte} {s t : State} {r : Reply} (h : send opc ps s = some (r, t)) :
    ∃ g, replyOf (s.oracle.answer 0) = some g ∧
      ((s.params.encDcChecked = true ∧ g = .err ∧ r = .err ∧
          t = (s.called (.setDC .low g)).drive (dcAfter .low g)) ∨
        (¬(s.params.encDcChecked = true ∧ g = .err) ∧ ∃ x, replyOf (s.oracle.answer 1) = some x ∧
          ((x = .err ∧ r = .err ∧
              t = ((s.called (.setDC .low g)).drive (dcAfter .low g)).called (.xfer (dcAfter .low g) [opc] x)) ∨
            (x = .ok ∧ ps = [] ∧ r = .ok ∧
              t = ((s.called (.setDC .low g)).drive (dcAfter .low g)).called (.xfer (dcAfter .low g) [opc] x)) ∨
            (x = .ok ∧ ps ≠ [] ∧ replyOf (s.oracle.answer 2) = some r ∧
              t = (((s.called (.setDC .low g)).drive (dcAfter .low g)).called
                (.xfer (dcAfter .low g) [opc] x)).called (.xfer (dcAfter .low g) ps r))))) := by
  unfold send at h
  split at h
  · cases h
  · rename_i g s1 hg
    obtain ⟨ag, rfl⟩ := gpioSet_eq_some hg
    refine ⟨g, ag, ?_⟩
    split at h
    · rename_i hc
      simp only [Option.some.injEq, Prod.mk.injEq] at h
      obtain ⟨rfl, rfl⟩ := h
      exact .inl ⟨hc.1, hc.2, rfl, rfl⟩
    · rename_i hc
      refine .inr ⟨hc, ?_⟩
      split at h
      · cases h
      · rename_i s2 hx
        obtain ⟨ax, rfl⟩ := busTransfer_eq_some hx
        simp only [Option.some.injEq, Prod.mk.injEq] at h
        obtain ⟨rfl, rfl⟩ := h
        exact ⟨.err, by simpa using ax, .inl ⟨rfl, rfl, rfl⟩⟩
      · rename_i s2 hx
        obtain ⟨ax, rfl⟩ := busTransfer_eq_some hx
        refine ⟨.ok, by simpa using ax, .inr ?_⟩
        split at h
        · rename_i hp
          simp only [Option.some.injEq, Prod.mk.injEq] at h
          obtain ⟨rfl, rfl⟩ := h
          exact .inl ⟨rfl, hp, rfl, rfl⟩
        · rename_i hp
          obtain ⟨aq, rfl⟩ := busTransfer_eq_some h
          exact .inr ⟨rfl, hp, by simpa using aq, rfl⟩

/-- Every way in which `sendData` comes back. -/
theorem sendData_cases {bytes : List Byte} {s t : State} {r : Reply} (h : sendData bytes s = some (r, t)) :
    (replyOf (s.oracle.answer 0) = some .err ∧ r = .err ∧ t = (s.called (.setDC .high .err)).drive .unknown) ∨
      (replyOf (s.oracle.answer 0) = some .ok ∧ replyOf (s.oracle.answer 1) = some .err ∧ r = .err ∧
        t = ((s.called (.setDC .high .ok)).drive .data).called (.xfer .data bytes .err)) ∨
      (replyOf (s.oracle.answer 0) = some .ok ∧ replyOf (s.oracle.answer 1) = some .ok ∧
        replyOf (s.oracle.answer 2) = some r ∧
        t = ((((s.called (.setDC .high .ok)).drive .data).called (.xfer .data bytes .ok)).called
          (.setDC .low r)).drive (dcAfter .low r)) := by
  unfold sendData at h
  split at h
  · cases h
  · rename_i s1 hg
    obtain ⟨ag, rfl⟩ := gpioSet_eq_some hg
    simp only [Option.some.injEq, Prod.mk.injEq] at h
    obtain ⟨rfl, rfl⟩ := h
    exact .inl ⟨ag, rfl, rfl⟩
  · rename_i s1 hg
    obtain ⟨ag, rfl⟩ := gpioSet_eq_some hg
    refine .inr ?_
    split at h
    · cases h
    · rename_i s2 hx
      obtain ⟨ax, rfl⟩ := busTransfer_eq_some hx
      simp only [Option.some.injEq, Prod.mk.injEq] at h
      obtain ⟨rfl, rfl⟩ := h
      exact .inl ⟨ag, by simpa using ax, rfl, rfl⟩
    · rename_i s2 hx
      obtain ⟨ax, rfl⟩ := busTransfer_eq_some hx
      obtain ⟨al, rfl⟩ := gpioSet_eq_some h
      exact .inr ⟨ag, by simpa using ax, by simpa using al, rfl⟩

/-! ### What an operation leaves alone -/

/-- Nothing but `dc`, `trace` and `oracle` differs. -/
structure OnlyWire (s t : State) : Prop where
  life : t.life = s.life
  bus : t.bus = s.bus
  gpio : t.gpio = s.gpio
  busCfg : t.busCfg = s.busCfg
  dcOut : t.dcOut = s.dcOut
  contrast : t.contrast = s.contrast
  displayOn : t.displayOn = s.displayOn
  refused : t.refused = s.refused
  params : t.params = s.params
  inbox : t.inbox = s.inbox
  bench : t.bench = s.bench
  ends : t.ends = s.ends

theorem OnlyWire.trans {s t u : State} (h : OnlyWire s t) (k : OnlyWire t u) : OnlyWire s u :=
  ⟨k.life.trans h.life, k.bus.trans h.bus, k.gpio.trans h.gpio, k.busCfg.trans h.busCfg, k.dcOut.trans h.dcOut,
    k.contrast.trans h.contrast, k.displayOn.trans h.displayOn, k.refused.trans h.refused, k.params.trans h.params,
    k.inbox.trans h.inbox, k.bench.trans h.bench, k.ends.trans h.ends⟩

theorem called_onlyWire (e : Event) (s : State) : OnlyWire s (s.called e) := by
  constructor <;> rfl

theorem drive_onlyWire (d : Dc) (s : State) : OnlyWire s (s.drive d) := by
  constructor <;> rfl

theorem send_onlyWire {opc : Byte} {ps : List Byte} {s t : State} {r : Reply} (h : send opc ps s = some (r, t)) :
    OnlyWire s t := by
  obtain ⟨g, -, ⟨-, -, -, rfl⟩ | ⟨-, x, -, ⟨-, -, rfl⟩ | ⟨-, -, -, rfl⟩ | ⟨-, -, -, rfl⟩⟩⟩ := send_cases h <;>
    constructor <;> rfl

theorem sendData_onlyWire {bytes : List Byte} {s t : State} {r : Reply} (h : sendData bytes s = some (r, t)) :
    OnlyWire s t := by
  obtain ⟨-, -, rfl⟩ | ⟨-, -, -, rfl⟩ | ⟨-, -, -, rfl⟩ := sendData_cases h <;> constructor <;> rfl

/-- Every way in which the transfers of a `write` come back: two commands, whatever they answered, then the payload. -/
theorem writeRegion_cases {w : Window} {buf : List Byte} {n : Nat} {s t : State} {r : Reply}
    (h : writeRegion w buf n s = some (r, t)) :
    ∃ r1 s1 r2 s2, send s.params.opcodes.rowAddr (rowParams w) s = some (r1, s1) ∧
      send s1.params.opcodes.colAddr (colParams w) s1 = some (r2, s2) ∧
      sendData (memRead s2.oracle.drawn buf n) s2 = some (r, t) := by
  unfold writeRegion at h
  split at h
  · cases h
  · rename_i r1 s1 h1
    split at h
    · cases h
    · rename_i r2 s2 h2
      exact ⟨r1, s1, r2, s2, h1, h2, h⟩

theorem writeRegion_onlyWire {w : Window} {buf : List Byte} {n : Nat} {s t : State} {r : Reply}
    (h : writeRegion w buf n s = some (r, t)) : OnlyWire s t := by
  obtain ⟨r1, s1, r2, s2, h1, h2, h3⟩ := writeRegion_cases h
  exact (send_onlyWire h1).trans ((send_onlyWire h2).trans (sendData_onlyWire h3))

/-- Every way in which the body of `initialize` comes back. -/
theorem acquireAll_cases {cfg : InstanceConfig} {s t : State} {r : Result} (h : acquireAll cfg s = some (r, t)) :
    (lookupOf (s.oracle.answer 0) = some none ∧ r = .err .initError ∧ t = s.called (.getBus cfg.busName false)) ∨
      ∃ b, lookupOf (s.oracle.answer 0) = some (some b) ∧
        ((lookupOf (s.oracle.answer 1) = some none ∧ r = .err .initError ∧
            t = (s.called (.getBus cfg.busName true)).called (.getGpio cfg.dcGpioName false)) ∨
          ∃ g, lookupOf (s.oracle.answer 1) = some (some g) ∧
            ((replyOf (s.oracle.answer 2) = some .err ∧ r = .err .initError ∧
                t = ((s.called (.getBus cfg.busName true)).called (.getGpio cfg.dcGpioName true)).called
                  (.cfgOut .err)) ∨
              (replyOf (s.oracle.answer 2) = some .ok ∧ r = .ok ∧
                t = (((s.called (.getBus cfg.busName true)).called (.getGpio cfg.dcGpioName true)).called
                  (.cfgOut .ok)).acquire b g (busConfigOf cfg)))) := by
  unfold acquireAll at h
  split at h
  · cases h
  · rename_i s1 hb
    obtain ⟨ab, rfl⟩ := getBusHandle_eq_some hb
    simp only [Option.some.injEq, Prod.mk.injEq] at h
    obtain ⟨rfl, rfl⟩ := h
    exact .inl ⟨ab, rfl, rfl⟩
  · rename_i b s1 hb
    obtain ⟨ab, rfl⟩ := getBusHandle_eq_some hb
    refine .inr ⟨b, ab, ?_⟩
    split at h
    · cases h
    · rename_i s2 hg
      obtain ⟨ag, rfl⟩ := getGpioHandle_eq_some hg
      simp only [Option.some.injEq, Prod.mk.injEq] at h
      obtain ⟨rfl, rfl⟩ := h
      exact .inl ⟨by simpa using ag, rfl, rfl⟩
    · rename_i g s2 hg
      obtain ⟨ag, rfl⟩ := getGpioHandle_eq_some hg
      refine .inr ⟨g, by simpa using ag, ?_⟩
      split at h
      · cases h
      · rename_i s3 hc
        obtain ⟨ac, rfl⟩ := gpioConfigureOutput_eq_some hc
        simp only [Option.some.injEq, Prod.mk.injEq] at h
        obtain ⟨rfl, rfl⟩ := h
        exact .inl ⟨by simpa using ac, rfl, rfl⟩
      · rename_i s3 hc
        obtain ⟨ac, rfl⟩ := gpioConfigureOutput_eq_some hc
        simp only [Option.some.injEq, Prod.mk.injEq] at h
        obtain ⟨rfl, rfl⟩ := h
        exact .inr ⟨by simpa using ac, rfl, rfl⟩

/-! ### The gate and the end of an operation -/

theorem whenInitialized_initialized {s : State} (h : s.life = .initialized)
    (go : Host.Outcome State Fault Refusal) : whenInitialized s go = go := by
  simp [whenInitialized, h]

theorem whenInitialized_uninitialized {s : State} (h : s.life = .uninitialized)
    (go : Host.Outcome State Fault Refusal) : whenInitialized s go = .next (s.refuse .notInitialized) := by
  simp [whenInitialized, h]

/-- A gated operation that comes back was refused, or passed the gate. -/
theorem whenInitialized_eq_next {s t : State} {go : Host.Outcome State Fault Refusal}
    (h : whenInitialized s go = .next t) :
    (s.life = .uninitialized ∧ t = s.refuse .notInitialized) ∨ (s.life = .initialized ∧ go = .next t) := by
  cases hl : s.life with
  | uninitialized =>
    rw [whenInitialized_uninitialized hl] at h
    exact .inl ⟨rfl, by simpa using h.symm⟩
  | initialized =>
    rw [whenInitialized_initialized hl] at h
    exact .inr ⟨rfl, h⟩

theorem finish_eq_next {o : Option (Reply × State)} {t : State} (h : finish o = .next t) :
    ∃ r u, o = some (r, u) ∧ t = u.ret (ioResult r) := by
  match o, h with
  | some (r, u), h => exact ⟨r, u, rfl, by simpa [finish] using h.symm⟩

/-- A record field is written on `Ok` only. -/
theorem onOk_eq {f : State → State} {a : Reply × State} {r : Reply} {t : State} (h : onOk f a = (r, t)) :
    ∃ u, a = (r, u) ∧ ((r = .ok ∧ t = f u) ∨ (r = .err ∧ t = u)) := by
  match a, h with
  | (.ok, u), h => cases h; exact ⟨_, rfl, .inl ⟨rfl, rfl⟩⟩
  | (.err, u), h => cases h; exact ⟨_, rfl, .inr ⟨rfl, rfl⟩⟩

end Sys2Proof.Machine
end

