-- ==== Sys2Proof/Laws/Exec.lean ====
section
/-! SUPPORT. What an instruction can do when it comes back with a next state, said once for all of them. -/
namespace Sys2Proof.Machine

/-- The opcode and parameters a wire command sends. -/
def sentBy (p : Params) : Instr → Option (Byte × List Byte)
  | .colAddr cs ce => some (p.opcodes.colAddr, [cs, ce])
  | .rowAddr rs re => some (p.opcodes.rowAddr, [rs, re])
  | .remap ps => some (p.opcodes.remap, ps)
  | .displayOn => some (p.opcodes.displayOn, [])
  | .displayOff => some (p.opcodes.displayOff, [])
  | .contrast v => some (p.opcodes.contrast, [v])
  | .data _ => none
  | .initDevice _ => none
  | .unblank => none
  | .blank => none
  | .write _ _ _ => none
  | .read _ => none
  | .getFramebuffer => none
  | .setBrightness _ => none
  | .setContrast _ => none
  | .getCapabilities => none
  | .setPixelFormat _ => none
  | .setOrientation _ => none

/-- The host operations that send one command and record its success: what they send and what they record. -/
def recordedBy (p : Params) : Instr → Option (Byte × List Byte × (State → State))
  | .colAddr _ _ => none
  | .rowAddr _ _ => none
  | .remap _ => none
  | .displayOn => none
  | .displayOff => none
  | .contrast _ => none
  | .data _ => none
  | .initDevice _ => none
  | .unblank => some (p.opcodes.displayOn, [], State.setDisplay .on)
  | .blank => some (p.opcodes.displayOff, [], State.setDisplay .off)
  | .write _ _ _ => none
  | .read _ => none
  | .getFramebuffer => none
  | .setBrightness _ => none
  | .setContrast v => some (p.opcodes.contrast, [v], State.setContrast v)
  | .getCapabilities => none
  | .setPixelFormat _ => none
  | .setOrientation _ => none

/-- The answer of an operation that touches no collaborator. -/
def answerOf (p : Params) : Instr → Option Result
  | .colAddr _ _ => none
  | .rowAddr _ _ => none
  | .remap _ => none
  | .displayOn => none
  | .displayOff => none
  | .contrast _ => none
  | .data _ => none
  | .initDevice _ => none
  | .unblank => none
  | .blank => none
  | .write _ _ _ => none
  | .read _ => some (.err .unsupported)
  | .getFramebuffer => some (.err .unsupported)
  | .setBrightness _ => some (.err .unsupported)
  | .setContrast _ => none
  | .getCapabilities => some (.caps (capsOf p))
  | .setPixelFormat f => some (formatResult f)
  | .setOrientation _ => some (.err .unsupported)

/-- The ways in which instruction `i` takes `s` to a next state. -/
inductive Ran (s : State) : Instr → State → Prop where
  /-- Refused (R166); none of the operations that touch no collaborator ever is. -/
  | refused (i : Instr) (why : RefuseReason) (h : answerOf s.params i = none) : Ran s i (s.refuse why)
  /-- Answered without a collaborator call (R132 to R137). -/
  | answered (i : Instr) (r : Result) (h : answerOf s.params i = some r) : Ran s i (s.ret r)
  /-- `initialize` (R121). -/
  | acquired (cfg : InstanceConfig) (r : Result) (u : State) (hl : s.life = .uninitialized)
      (h : acquireAll cfg s = some (r, u)) : Ran s (.initDevice cfg) (u.ret r)
  /-- A wire command (R85 to R90). -/
  | sent (i : Instr) (opc : Byte) (ps : List Byte) (r : Reply) (u : State) (hl : s.life = .initialized)
      (hi : sentBy s.params i = some (opc, ps)) (h : send opc ps s = some (r, u)) : Ran s i (u.ret (ioResult r))
  /-- unblank, blank or set_contrast, answered `Ok`. -/
  | recorded (i : Instr) (opc : Byte) (ps : List Byte) (f : State → State) (u : State) (hl : s.life = .initialized)
      (hi : recordedBy s.params i = some (opc, ps, f)) (h : send opc ps s = some (.ok, u)) : Ran s i ((f u).ret .ok)
  /-- unblank, blank or set_contrast, answered `Err`. -/
  | unrecorded (i : Instr) (opc : Byte) (ps : List Byte) (f : State → State) (u : State)
      (hl : s.life = .initialized) (hi : recordedBy s.params i = some (opc, ps, f))
      (h : send opc ps s = some (.err, u)) : Ran s i (u.ret (.err .ioError))
  /-- DATA (R91). -/
  | data (bs : List Byte) (r : Reply) (u : State) (hl : s.life = .initialized) (h : sendData bs s = some (r, u)) :
      Ran s (.data bs) (u.ret (ioResult r))
  /-- An accepted `write` (R127). -/
  | written (x y : HalfWord) (reg : WriteRegion) (buf : List Byte) (r : Reply) (u : State)
      (hl : s.life = .initialized) (hb : reg.buf = some buf) (hn : reg.bufSize ≠ 0)
      (hw : inRange s.params (computeWindow s.params x y reg.pitch))
      (h : writeRegion (computeWindow s.params x y reg.pitch) buf reg.bufSize s = some (r, u)) :
      Ran s (.write x y reg) (u.ret (ioResult r))

theorem ran_of_gated_send {s t : State} {i : Instr} {opc : Byte} {ps : List Byte}
    (hi : sentBy s.params i = some (opc, ps)) (hn : answerOf s.params i = none)
    (h : whenInitialized s (finish (send opc ps s)) = .next t) : Ran s i t := by
  obtain ⟨-, rfl⟩ | ⟨hl, h⟩ := whenInitialized_eq_next h
  · exact .refused i _ hn
  · obtain ⟨r, u, hs, rfl⟩ := finish_eq_next h
    exact .sent i opc ps r u hl hi hs

theorem ran_of_gated_record {s t : State} {i : Instr} {opc : Byte} {ps : List Byte} {f : State → State}
    (hi : recordedBy s.params i = some (opc, ps, f)) (hn : answerOf s.params i = none)
    (h : whenInitialized s (finish ((send opc ps s).map (onOk f))) = .next t) : Ran s i t := by
  obtain ⟨-, rfl⟩ | ⟨hl, h⟩ := whenInitialized_eq_next h
  · exact .refused i _ hn
  · obtain ⟨r, u, hs, rfl⟩ := finish_eq_next h
    obtain ⟨a, ha, hf⟩ := Option.map_eq_some_iff.1 hs
    obtain ⟨v, rfl, ⟨rfl, rfl⟩ | ⟨rfl, rfl⟩⟩ := onOk_eq hf
    · exact .recorded i opc ps f v hl hi ha
    · exact .unrecorded i opc ps f u hl hi ha

/-- Every next state of every instruction comes about in one of these ways. -/
theorem exec_ran {i : Instr} {s t : State} (h : exec i s = .next t) : Ran s i t := by
  cases i with
  | colAddr cs ce => exact ran_of_gated_send rfl rfl h
  | rowAddr rs re => exact ran_of_gated_send rfl rfl h
  | remap ps => exact ran_of_gated_send rfl rfl h
  | displayOn => exact ran_of_gated_send rfl rfl h
  | displayOff => exact ran_of_gated_send rfl rfl h
  | contrast v => exact ran_of_gated_send rfl rfl h
  | data bs =>
    obtain ⟨-, rfl⟩ | ⟨hl, h⟩ := whenInitialized_eq_next h
    · exact .refused _ _ rfl
    · obtain ⟨r, u, hs, rfl⟩ := finish_eq_next h
      exact .data bs r u hl hs
  | initDevice cfg =>
    simp only [exec, execInitialize] at h
    split at h
    · simp only [Host.Outcome.next.injEq] at h
      subst h
      exact .refused _ _ rfl
    · rename_i hl
      split at h
      · cases h
      · rename_i r u hu
        simp only [Host.Outcome.next.injEq] at h
        subst h
        exact .acquired cfg r u hl hu
  | unblank => exact ran_of_gated_record rfl rfl h
  | blank => exact ran_of_gated_record rfl rfl h
  | write x y reg =>
    obtain ⟨-, rfl⟩ | ⟨hl, h⟩ := whenInitialized_eq_next h
    · exact .refused _ _ rfl
    · split at h
      · simp only [Host.Outcome.next.injEq] at h
        subst h
        exact .refused _ _ rfl
      · rename_i buf hb
        split at h
        · simp only [Host.Outcome.next.injEq] at h
          subst h
          exact .refused _ _ rfl
        · rename_i hn
          split at h
          · rename_i hw
            obtain ⟨r, u, hs, rfl⟩ := finish_eq_next h
            exact .written x y reg buf r u hl hb hn hw hs
          · simp only [Host.Outcome.next.injEq] at h
            subst h
            exact .refused _ _ rfl
  | setContrast v => exact ran_of_gated_record rfl rfl h
  | read args => cases h; exact .answered _ _ rfl
  | getFramebuffer => cases h; exact .answered _ _ rfl
  | setBrightness args => cases h; exact .answered _ _ rfl
  | getCapabilities => cases h; exact .answered _ _ rfl
  | setPixelFormat f => cases h; exact .answered _ _ rfl
  | setOrientation args => cases h; exact .answered _ _ rfl

/-- Every way in which a step answers a next state: the block waits; it refuses an overlapping call; it runs the word on
the bench; it runs the host's first pending call. -/
theorem step_cases {s t : State} (h : step s = .next t) :
    (s.bench = none ∧ s.inbox = [] ∧ t = s) ∨
    (s.bench = none ∧ t = s.taken.refuse .concurrentCall) ∨
    (∃ b i, s.bench = some b ∧ decode s.params (.wire b.level b.bytes) = .ok i ∧ exec i s.taken = .next t) ∨
    (∃ r rest i, s.bench = none ∧ s.inbox = r :: rest ∧ decode s.params (.call r.call) = .ok i ∧
      exec i s.taken = .next t) := by
  unfold step fetch at h
  cases hs : s.bench with
  | some b =>
    simp only [hs] at h
    cases hd : decode s.params (.wire b.level b.bytes) with
    | error why => simp [hd, Fetched.ofDecoded] at h
    | ok i => exact .inr (.inr (.inl ⟨b, i, rfl, hd, by simpa [hd, Fetched.ofDecoded] using h⟩))
  | none =>
    simp only [hs] at h
    cases hb : s.inbox with
    | nil =>
      simp only [hb, Host.Outcome.next.injEq] at h
      exact .inl ⟨rfl, rfl, h.symm⟩
    | cons r rest =>
      simp only [hb] at h
      cases ho : r.overlaps with
      | true =>
        simp only [ho, if_true, Host.Outcome.next.injEq] at h
        exact .inr (.inl ⟨rfl, h.symm⟩)
      | false =>
        cases hd : decode s.params (.call r.call) with
        | error why => simp [ho, hd, Fetched.ofDecoded] at h
        | ok i =>
          exact .inr (.inr (.inr ⟨r, rest, i, rfl, rfl, hd, by simpa [ho, hd, Fetched.ofDecoded] using h⟩))

/-- The same, where it does not matter from where the instruction came. -/
theorem step_ran {s t : State} (h : step s = .next t) :
    (s.bench = none ∧ s.inbox = [] ∧ t = s) ∨ (s.bench = none ∧ t = s.taken.refuse .concurrentCall) ∨
      ∃ b i, decode s.params b = .ok i ∧ exec i s.taken = .next t := by
  obtain h | h | ⟨b, i, -, hd, he⟩ | ⟨r, rest, i, -, -, hd, he⟩ := step_cases h
  · exact .inl h
  · exact .inr (.inl h)
  · exact .inr (.inr ⟨_, i, hd, he⟩)
  · exact .inr (.inr ⟨_, i, hd, he⟩)

end Sys2Proof.Machine
end

