-- ==== Sys2Proof/Laws/PerInstr.lean ====
section
/-! SUPPORT. Facts about every instruction as syntax, one lemma per constructor. -/
namespace Sys2Proof.Laws

/-- The form the opcode table gives a row: a wire command with this opcode, the payload, or a call by this name. -/
inductive Form where
  | command (o : Opcode)
  | payload
  | call (name : String)
deriving DecidableEq, Repr

/-- The form of an instruction's row in spec/opcode_table.json. -/
def formOf : Instr → Form
  | .colAddr _ _ => .command .colAddr
  | .rowAddr _ _ => .command .rowAddr
  | .remap _ => .command .remap
  | .displayOn => .command .displayOn
  | .displayOff => .command .displayOff
  | .contrast _ => .command .contrast
  | .data _ => .payload
  | .initDevice _ => .call "initialize"
  | .unblank => .call "unblank"
  | .blank => .call "blank"
  | .write _ _ _ => .call "write"
  | .read _ => .call "read"
  | .getFramebuffer => .call "get_framebuffer"
  | .setBrightness _ => .call "set_brightness"
  | .setContrast _ => .call "set_contrast"
  | .getCapabilities => .call "get_capabilities"
  | .setPixelFormat _ => .call "set_pixel_format"
  | .setOrientation _ => .call "set_orientation"

/-- A body has a form: a command is its opcode and `NPARAM` bytes on the command level (R60, R69), a payload is one byte
or more on the data level (R67), a call is by name (R73). -/
def HasForm (p : Params) : Form → Body → Prop
  | .command o, .wire .low (b :: ps) => b = o.value p.opcodes ∧ ps.length = nparam p o
  | .payload, .wire .high bs => bs ≠ []
  | .call name, .call c => c.op = name
  | _, _ => False

namespace EncodingForm

/-- The encoding of a well-formed instruction has the form of its row. -/
def Statement (i : Instr) : Prop :=
  ∀ p : Params, wellFormed p i = true → HasForm p (formOf i) (encode p i)

theorem colAddr (s e : Byte) : Statement (.colAddr s e) := fun _ _ => ⟨rfl, rfl⟩
theorem rowAddr (s e : Byte) : Statement (.rowAddr s e) := fun _ _ => ⟨rfl, rfl⟩
theorem remap (ps : List Byte) : Statement (.remap ps) := fun _ h => ⟨rfl, by simpa [wellFormed, nparam] using h⟩
theorem displayOn : Statement .displayOn := fun _ _ => ⟨rfl, rfl⟩
theorem displayOff : Statement .displayOff := fun _ _ => ⟨rfl, rfl⟩
theorem contrast (v : Byte) : Statement (.contrast v) := fun _ _ => ⟨rfl, rfl⟩
theorem data (bs : List Byte) : Statement (.data bs) := fun _ h => by
  simpa [wellFormed, HasForm, formOf, encode] using h
theorem initDevice (cfg : InstanceConfig) : Statement (.initDevice cfg) := fun _ _ => rfl
theorem unblank : Statement .unblank := fun _ _ => rfl
theorem blank : Statement .blank := fun _ _ => rfl
theorem write (x y : HalfWord) (r : WriteRegion) : Statement (.write x y r) := fun _ _ => rfl
theorem read (args : List Arg) : Statement (.read args) := fun _ _ => rfl
theorem getFramebuffer : Statement .getFramebuffer := fun _ _ => rfl
theorem setBrightness (args : List Arg) : Statement (.setBrightness args) := fun _ _ => rfl
theorem setContrast (v : Byte) : Statement (.setContrast v) := fun _ _ => rfl
theorem getCapabilities : Statement .getCapabilities := fun _ _ => rfl
theorem setPixelFormat (f : PixelFormat) : Statement (.setPixelFormat f) := fun _ _ => rfl
theorem setOrientation (args : List Arg) : Statement (.setOrientation args) := fun _ _ => rfl

end EncodingForm
end Sys2Proof.Laws
end

