-- ==== Sys2Proof/Tests/Slice0.lean ====
section
/-! SUPPORT. The model's own tests. Expected values are the vectors of spec/95_test_vectors.md (their ids stand beside
them) or are written out by hand from the rules named. Then one witness for each statement that has hypotheses. -/
namespace Sys2Proof.Tests
open Sys2Proof Sys2Proof.Machine Sys2Proof.Spec

/-! ### Helpers -/

/-- Parameters with distinct opcodes of their own, REMAP_NPARAM = 2, one other pixel format. -/
def params2 : Params :=
  { referenceParams with
    opcodes := { colAddr := 0x10, rowAddr := 0x20, remap := 0x30, displayOn := 0x41, displayOff := 0x40, contrast := 0x50 }
    remapNparam := 2 }

/-- The initialized block of 95_test_vectors.md (W = 128, H = 64, `dc = Unknown`), with these answers to come. -/
def ready (script : List Answer) : State :=
  { State.resetWith referenceParams { script := script, drawn := 0 } with
    life := .initialized
    bus := some { token := 7 }
    gpio := some { token := 8 }
    busCfg := some { cpol := false, cpha := false, wordBits := 8, lines := .single, cs := none }
    dcOut := true }

/-- The block after reset, with these answers to come. -/
def fresh (script : List Answer) : State :=
  State.resetWith referenceParams { script := script, drawn := 0 }

/-- `n` answers `Ok`. -/
def oks (n : Nat) : List Answer :=
  List.replicate n (.ok 7)

/-- What a run shows: the events, what was handed back, the level. -/
def seen (o : Host.Outcome State Fault Refusal) : Option (List Event × List CallEnd × Dc) :=
  match o with
  | .next s => some (s.trace, s.ends, s.dc)
  | .fault _ => none
  | .refused _ => none

/-- The state after, if there is one. -/
def after (o : Host.Outcome State Fault Refusal) : Option State :=
  match o with
  | .next s => some s
  | .fault _ => none
  | .refused _ => none

/-- A request that overlaps none. -/
def ask (op : String) (args : List Arg) : Request :=
  { overlaps := false, call := { op := op, args := args } }

/-- A region that holds its bytes. -/
def region (bs : List Byte) (pitch : Option HalfWord) : WriteRegion :=
  { buf := some bs, bufSize := bs.length, pitch := pitch }

/-! ### WellFormed: each check refuses an ill-formed term -/

theorem test_wf_remap_count : wellFormed params2 (.remap [1]) = false ∧ wellFormed params2 (.remap [1, 2]) = true := by
  decide
theorem test_wf_data_empty : wellFormed params2 (.data []) = false ∧ wellFormed params2 (.data [0]) = true := by decide
theorem test_wf_foreign_config :
    wellFormed params2 (.initDevice { referenceInst with dcPin := 9 }) = false ∧
      wellFormed params2 (.initDevice referenceInst) = true := by decide
theorem test_wf_format : wellFormed params2 (.setPixelFormat (.other 1)) = false ∧
    wellFormed params2 (.setPixelFormat (.other 0)) = true ∧ wellFormed params2 (.setPixelFormat .gray4) = true := by
  decide

/-! ### Decode: one encoding written out for every constructor (R60 to R67, R73) -/

theorem test_decode_colAddr : decode params2 (.wire .low [0x10, 5, 14]) = .ok (.colAddr 5 14) := by rfl
theorem test_decode_rowAddr : decode params2 (.wire .low [0x20, 5, 63]) = .ok (.rowAddr 5 63) := by rfl
theorem test_decode_remap : decode params2 (.wire .low [0x30, 0xAA, 0xBB]) = .ok (.remap [0xAA, 0xBB]) := by rfl
theorem test_decode_displayOn : decode params2 (.wire .low [0x41]) = .ok .displayOn := by rfl
theorem test_decode_displayOff : decode params2 (.wire .low [0x40]) = .ok .displayOff := by rfl
theorem test_decode_contrast : decode params2 (.wire .low [0x50, 0x80]) = .ok (.contrast 0x80) := by rfl
theorem test_decode_data : decode params2 (.wire .high [0x12, 0x34]) = .ok (.data [0x12, 0x34]) := by rfl
theorem test_decode_initialize :
    decode params2 (.call { op := "initialize", args := [.config referenceInst] }) = .ok (.initDevice referenceInst) := by
  rfl
theorem test_decode_unblank : decode params2 (.call { op := "unblank", args := [] }) = .ok .unblank := by rfl
theorem test_decode_blank : decode params2 (.call { op := "blank", args := [] }) = .ok .blank := by rfl
theorem test_decode_write :
    decode params2 (.call { op := "write", args := [.num 10, .num 5, .bytes [1, 2], .num 2, .num 20] }) =
      .ok (.write 10 5 (region [1, 2] (some 20))) := by rfl
theorem test_decode_write_null :
    decode params2 (.call { op := "write", args := [.num 0, .num 0, .absent, .num 2, .absent] }) =
      .ok (.write 0 0 { buf := none, bufSize := 2, pitch := none }) := by rfl
theorem test_decode_read : decode params2 (.call { op := "read", args := [.num 3] }) = .ok (.read [.num 3]) := by rfl
theorem test_decode_getFramebuffer :
    decode params2 (.call { op := "get_framebuffer", args := [] }) = .ok .getFramebuffer := by rfl
theorem test_decode_setBrightness :
    decode params2 (.call { op := "set_brightness", args := [.num 0x80] }) = .ok (.setBrightness [.num 0x80]) := by rfl
theorem test_decode_setContrast :
    decode params2 (.call { op := "set_contrast", args := [.num 255] }) = .ok (.setContrast 0xFF) := by rfl
theorem test_decode_getCapabilities :
    decode params2 (.call { op := "get_capabilities", args := [] }) = .ok .getCapabilities := by rfl
theorem test_decode_setPixelFormat :
    decode params2 (.call { op := "set_pixel_format", args := [.format .gray4] }) = .ok (.setPixelFormat .gray4) := by rfl
theorem test_decode_setOrientation :
    decode params2 (.call { op := "set_orientation", args := [.word "NORMAL"] }) =
      .ok (.setOrientation [.word "NORMAL"]) := by rfl

/-- What is no instruction is refused by name. -/
theorem test_decode_refuses :
    decode params2 (.wire .low [0x99]) = .error (.undecodableOpcode 0x99) ∧
    decode params2 (.wire .low [0x20, 5]) = .error .truncatedCommand ∧
    decode params2 (.wire .low [0x41, 0]) = .error .trailingBytes ∧
    decode params2 (.wire .low []) = .error .noOpcode ∧
    decode params2 (.wire .high []) = .error .emptyPayload ∧
    decode params2 (.call { op := "reset", args := [] }) = .error (.unknownOperation "reset") ∧
    decode params2 (.call { op := "set_contrast", args := [.num 256] }) = .error (.badArguments "set_contrast") ∧
    decode params2 (.call { op := "write", args := [.num 65536, .num 0, .absent, .num 0, .absent] }) =
      .error (.badArguments "write") := by
  refine ⟨by rfl, by rfl, by rfl, by rfl, by rfl, by rfl, by rfl, by rfl⟩

/-- X1 to X4, with the reference opcodes. -/
theorem test_stream_vectors :
    decodeStream referenceParams [0x02, 5, 63, 0x01, 5, 14] = .ok [.rowAddr 5 63, .colAddr 5 14] ∧
    decodeStream referenceParams [0x04, 0x06, 0x7F, 0x05] = .ok [.displayOn, .contrast 0x7F, .displayOff] ∧
    decodeStream referenceParams [0x02, 5] = .error .truncatedCommand ∧
    decodeStream referenceParams [0x07] = .error (.undecodableOpcode 0x07) := by
  refine ⟨by rfl, by rfl, by rfl, by rfl⟩

/-- A table word has its opcode in the lowest byte; operand bytes it leaves out are zero (log 13). -/
theorem test_table_word :
    decodeTableWord 24 0x0E0501 = some (.colAddr 5 14) ∧ decodeTableWord 8 0x02 = some (.rowAddr 0 0) ∧
    decodeTableWord 8 0x04 = some .displayOn ∧ decodeTableWord 16 0x8006 = some (.contrast 0x80) ∧
    decodeTableWord 8 0xFF = none := by decide

/-- The very next step runs a placed word: CONTRAST 0x80, all `Ok`. -/
theorem test_withFetchWord_runs :
    seen (step ((ready (oks 3)).withFetchWord 16 0x8006)) =
      some ([.setDC .low .ok, .xfer .cmd [0x06] .ok, .xfer .cmd [0x80] .ok], [.returned .ok], .cmd) := by decide

/-- E1 and the syntax of R75, and lines that are none. -/
theorem test_text :
    parseLine referenceParams "write x=10 y=5 pitch=20 buf=[0x12, 0x34]" = some (.write 10 5 (region [0x12, 0x34] (some 20))) ∧
    parseLine referenceParams "initialize" = some (.initDevice referenceInst) ∧
    parseLine params2 "REMAP 1, 2" = some (.remap [1, 2]) ∧
    parseLine params2 "REMAP 1" = none ∧
    parseLine referenceParams "DATA [0xAB]" = some (.data [0xAB]) ∧
    parseLine referenceParams "set_pixel_format GRAY4" = some (.setPixelFormat .gray4) ∧
    parseLine referenceParams "unblank now" = none := by
  refine ⟨by decide, by decide, by decide, by decide, by decide, by decide, by decide⟩

/-! ### The Addressing Translator -/

/-- The panel of a vector. -/
def panel (w h : Nat) : Params :=
  { referenceParams with width := w, height := h }

/-- A window and whether it is in range. -/
def win (p : Params) (x y : HalfWord) (pitch : Option HalfWord) : (Int × Int) × (Int × Int) × Bool :=
  let w := computeWindow p x y pitch
  ((w.colStart, w.colEnd), (w.rowStart, w.rowEnd), decide (inRange p w))

/-- T1 to T9. -/
theorem test_window_pitch :
    win (panel 128 64) 0 0 none = ((0, 63), (0, 63), true) ∧ win (panel 128 64) 0 0 (some 0) = ((0, 63), (0, 63), true) ∧
    win (panel 128 64) 0 0 (some 128) = ((0, 63), (0, 63), true) ∧
    win (panel 128 64) 0 0 (some 200) = ((0, 63), (0, 63), true) ∧
    win (panel 128 64) 0 0 (some 127) = ((0, 62), (0, 63), true) ∧
    win (panel 128 64) 0 0 (some 126) = ((0, 62), (0, 63), true) ∧
    win (panel 128 64) 0 0 (some 2) = ((0, 0), (0, 63), true) ∧
    win (panel 128 64) 0 0 (some 1) = ((0, -1), (0, 63), false) ∧
    win (panel 128 64) 2 0 (some 1) = ((1, 0), (0, 63), true) := by decide

/-- T10 to T24. -/
theorem test_window_edges :
    win (panel 128 64) 11 5 (some 20) = ((5, 14), (5, 63), true) ∧
    win (panel 128 64) 10 5 (some 21) = ((5, 14), (5, 63), true) ∧
    win (panel 128 64) 120 0 (some 20) = ((60, 69), (0, 63), false) ∧
    win (panel 128 64) 108 0 (some 20) = ((54, 63), (0, 63), true) ∧
    win (panel 128 64) 110 0 (some 20) = ((55, 64), (0, 63), false) ∧
    win (panel 128 64) 127 0 none = ((63, 63), (0, 63), true) ∧
    win (panel 128 64) 128 0 none = ((64, 63), (0, 63), false) ∧
    win (panel 128 64) 0 63 none = ((0, 63), (63, 63), true) ∧
    win (panel 128 64) 0 64 none = ((0, 63), (64, 63), false) ∧
    win (panel 128 64) 126 10 (some 2) = ((63, 63), (10, 63), true) ∧
    win (panel 256 64) 0 0 none = ((0, 127), (0, 63), true) ∧
    win (panel 512 256) 510 255 none = ((255, 255), (255, 255), true) ∧
    win (panel 128 64) 65535 0 none = ((32767, 63), (0, 63), false) ∧
    win (panel 128 64) 1 0 (some 1) = ((0, -1), (0, 63), false) ∧
    win (panel 128 64) 64 32 (some 64) = ((32, 63), (32, 63), true) := by
  refine ⟨by decide, by decide, by decide, by decide, by decide, by decide, by decide, by decide, by decide, by decide, by decide, by decide, by decide, by decide, by decide⟩

/-! ### Wire commands (S1 to S8) -/

/-- S1. -/
theorem test_displayOn : seen (exec .displayOn (ready (oks 2))) =
    some ([.setDC .low .ok, .xfer .cmd [0x04] .ok], [.returned .ok], .cmd) := by decide
/-- S2 as CONTRAST. -/
theorem test_contrast : seen (exec (.contrast 0x00) (ready (oks 3))) =
    some ([.setDC .low .ok, .xfer .cmd [0x06] .ok, .xfer .cmd [0x00] .ok], [.returned .ok], .cmd) := by decide
/-- S3: a failed opcode transfer sends no parameters. -/
theorem test_contrast_opcode_fails : seen (exec (.contrast 0xFF) (ready [.ok 0, .err])) =
    some ([.setDC .low .ok, .xfer .cmd [0x06] .err], [.returned (.err .ioError)], .cmd) := by decide
/-- S4. -/
theorem test_rowAddr_params_fail : seen (exec (.rowAddr 5 63) (ready [.ok 0, .ok 0, .err])) =
    some ([.setDC .low .ok, .xfer .cmd [0x02] .ok, .xfer .cmd [5, 63] .err], [.returned (.err .ioError)], .cmd) := by
  decide
/-- S5: a failed `GpioSet` is not checked by default. -/
theorem test_colAddr_dc_fails : seen (exec (.colAddr 5 14) (ready [.err, .ok 0, .ok 0])) =
    some ([.setDC .low .err, .xfer .unknown [0x01] .ok, .xfer .unknown [5, 14] .ok], [.returned .ok], .unknown) := by
  decide
/-- S6: it is with `ENC_DC_CHECKED`. -/
theorem test_colAddr_dc_checked :
    seen (exec (.colAddr 5 14) { ready [.err] with params := { referenceParams with encDcChecked := true } }) =
      some ([.setDC .low .err], [.returned (.err .ioError)], .unknown) := by decide
/-- S7: from data mode. -/
theorem test_displayOff : seen (exec .displayOff { ready (oks 2) with dc := .data }) =
    some ([.setDC .low .ok, .xfer .cmd [0x05] .ok], [.returned .ok], .cmd) := by decide
/-- R90 with two parameters. -/
theorem test_remap : seen (exec (.remap [1, 2]) { ready (oks 3) with params := params2 }) =
    some ([.setDC .low .ok, .xfer .cmd [0x30] .ok, .xfer .cmd [1, 2] .ok], [.returned .ok], .cmd) := by decide
/-- R91, its example. -/
theorem test_data : seen (exec (.data [0xAB]) (ready (oks 3))) =
    some ([.setDC .high .ok, .xfer .data [0xAB] .ok, .setDC .low .ok], [.returned .ok], .cmd) := by decide
/-- R91 (b): the line stays in data mode. -/
theorem test_data_payload_fails : seen (exec (.data [0xAB]) (ready [.ok 0, .err])) =
    some ([.setDC .high .ok, .xfer .data [0xAB] .err], [.returned (.err .ioError)], .data) := by decide

/-! ### Host operations -/

/-- The addressing events `A` of W1 to W7. -/
def addressing : List Event :=
  [.setDC .low .ok, .xfer .cmd [0x02] .ok, .xfer .cmd [5, 63] .ok,
    .setDC .low .ok, .xfer .cmd [0x01] .ok, .xfer .cmd [5, 14] .ok]

/-- W2 (E2): the swallowed row failure. -/
theorem test_write_row_fails :
    seen (exec (.write 10 5 (region [0xAB] (some 20))) (ready (.ok 0 :: .err :: oks 6))) =
      some ([.setDC .low .ok, .xfer .cmd [0x02] .err, .setDC .low .ok, .xfer .cmd [0x01] .ok, .xfer .cmd [5, 14] .ok,
        .setDC .high .ok, .xfer .data [0xAB] .ok, .setDC .low .ok], [.returned .ok], .cmd) := by decide
/-- W6: the lower fails after the payload. -/
theorem test_write_lower_fails :
    seen (exec (.write 10 5 (region [0xAB] (some 20))) (ready (oks 8 ++ [.err]))) =
      some (addressing ++ [.setDC .high .ok, .xfer .data [0xAB] .ok, .setDC .low .err],
        [.returned (.err .ioError)], .unknown) := by decide
/-- B1. -/
theorem test_unblank : (after (exec .unblank (ready (oks 2)))).map (fun t => (t.trace, t.ends, t.displayOn)) =
    some ([.setDC .low .ok, .xfer .cmd [0x04] .ok], [.returned .ok], .on) := by decide
/-- B2: the flag is unchanged. -/
theorem test_blank_fails :
    (after (exec .blank { ready [.ok 0, .err] with displayOn := .on })).map (fun t => (t.trace, t.ends, t.displayOn)) =
      some ([.setDC .low .ok, .xfer .cmd [0x05] .err], [.returned (.err .ioError)], .on) := by decide
/-- B3. -/
theorem test_blank : (after (exec .blank (ready (oks 2)))).map (fun t => (t.ends, t.displayOn)) =
    some ([.returned .ok], .off) := by decide
/-- K2. -/
theorem test_setContrast : (after (exec (.setContrast 0xFF) (ready (oks 3)))).map (fun t => (t.ends, t.contrast)) =
    some ([.returned .ok], some 0xFF) := by decide
/-- K3. -/
theorem test_setContrast_fails :
    (after (exec (.setContrast 0x80) (ready [.ok 0, .ok 0, .err]))).map (fun t => (t.trace, t.ends, t.contrast)) =
      some ([.setDC .low .ok, .xfer .cmd [0x06] .ok, .xfer .cmd [0x80] .err], [.returned (.err .ioError)], none) := by
  decide
/-- I1. -/
theorem test_initialize : (after (exec (.initDevice referenceInst) (fresh [.ok 3, .ok 4, .ok 0]))).map
    (fun t => (t.trace, t.ends, t.life, t.bus, t.gpio, t.dc)) =
      some ([.getBus "BUS_NAME" true, .getGpio "DC_GPIO_NAME" true, .cfgOut .ok], [.returned .ok], .initialized,
        some { token := 3 }, some { token := 4 }, .unknown) := by rfl
/-- I3: no later call is made, and nothing is kept. -/
theorem test_initialize_no_gpio : (after (exec (.initDevice referenceInst) (fresh [.ok 3, .err]))).map
    (fun t => (t.trace, t.ends, t.life, t.bus)) =
      some ([.getBus "BUS_NAME" true, .getGpio "DC_GPIO_NAME" false], [.returned (.err .initError)], .uninitialized,
        none) := by decide
/-- F1, F2. -/
theorem test_setPixelFormat :
    exec (.setPixelFormat .gray4) (fresh []) = .next { fresh [] with ends := [.returned .ok] } ∧
    exec (.setPixelFormat (.other 0)) (fresh []) =
      .next { fresh [] with ends := [.returned (.err .unsupportedFormat)] } := ⟨rfl, rfl⟩
/-- F3. -/
theorem test_getCapabilities : exec .getCapabilities (fresh []) = .next { fresh [] with ends := [.returned (.caps
    { xResolution := 128, yResolution := 64, supportedPixelFormats := [.gray4], currentPixelFormat := .gray4,
      screenInfo := .monoMsbFirst, currentOrientation := .normal })] } := rfl
/-- F4 to F7. -/
theorem test_unsupported :
    exec (.read []) (fresh []) = .next { fresh [] with ends := [.returned (.err .unsupported)] } ∧
    exec .getFramebuffer (fresh []) = .next { fresh [] with ends := [.returned (.err .unsupported)] } ∧
    exec (.setBrightness [.num 0x80]) (fresh []) = .next { fresh [] with ends := [.returned (.err .unsupported)] } ∧
    exec (.setOrientation [.word "NORMAL"]) (fresh []) =
      .next { fresh [] with ends := [.returned (.err .unsupported)] } := ⟨rfl, rfl, rfl, rfl⟩
/-- A step takes the call up (F3 by `step`). -/
theorem test_step :
    step { fresh [] with inbox := [ask "get_framebuffer" []] } =
      .next { fresh [] with ends := [.returned (.err .unsupported)] } := rfl
/-- D11, written out by hand: 0x12 is 00010010. -/
theorem test_lineBits :
    lineBits referenceParams [0x12] = [false, false, false, true, false, false, true, false] ∧
    lineBits { referenceParams with bitOrder := .lsbFirst } [0x12] =
      [false, true, false, false, true, false, false, false] := by decide
/-- The trace of P1's write decodes to the commands the vector names. -/
theorem test_wireProgram :
    wireProgram referenceParams [.setDC .low .ok, .xfer .cmd [0x02] .ok, .xfer .cmd [62, 63] .ok, .setDC .low .ok,
      .xfer .cmd [0x01] .ok, .xfer .cmd [0, 63] .ok, .setDC .high .ok, .xfer .data [0x12, 0x34] .ok, .setDC .low .ok] =
    .ok [.rowAddr 62 63, .colAddr 0 63, .data [0x12, 0x34]] := by rfl

/-! ### Witnesses: the hypotheses of each statement are met -/

/-- A pending call of get_framebuffer. -/
def pending : State :=
  { fresh [] with inbox := [ask "get_framebuffer" []] }

/-- A pending call that is no instruction: R73 has no such name (R80: nor can the host name a wire command). -/
def pendingBad : State :=
  { fresh [] with inbox := [ask "REMAP" []] }

/-- A wire command on the bench. -/
def onBench : State :=
  (ready (oks 3)).withBench { level := .low, bytes := [0x06, 0x80] }

/-- The region of E1's write, with one byte. -/
def e1 : WriteRegion :=
  region [0xAB] (some 20)

theorem reference_valid : referenceParams.Valid := by decide
theorem params2_valid : params2.Valid := by decide

theorem witness_StepRunsDecodedInstruction :
    (pending.bench = none ∧ pending.inbox = [ask "get_framebuffer" []] ∧ (ask "get_framebuffer" []).overlaps = false ∧
      decode pending.params (.call (ask "get_framebuffer" []).call) = .ok .getFramebuffer) ∧
    onBench.bench = some { level := .low, bytes := [0x06, 0x80] } ∧
      decode onBench.params (.wire .low [0x06, 0x80]) = .ok (.contrast 0x80) := ⟨⟨rfl, rfl, rfl, rfl⟩, rfl, rfl⟩

theorem witness_StepWithoutInstruction :
    (State.reset.bench = none ∧ State.reset.inbox = []) ∧
    (pendingBad.bench = none ∧ pendingBad.inbox = [ask "REMAP" []] ∧ (ask "REMAP" []).overlaps = false ∧
      decode pendingBad.params (.call (ask "REMAP" []).call) = .error (.unknownOperation "REMAP")) ∧
    decode (ready []).params (.wire .low [0xFF]) = .error (.undecodableOpcode 0xFF) ∧
      ((ready []).withBench { level := .low, bytes := [0xFF] }).bench = some { level := .low, bytes := [0xFF] } :=
  ⟨⟨rfl, rfl⟩, ⟨rfl, rfl, rfl, rfl⟩, rfl, rfl⟩

/-- A call that overlaps the one before it, and asks for nothing that there is. -/
def overlapping : Request :=
  { overlaps := true, call := { op := "REMAP", args := [] } }

theorem witness_OverlappingCallIsRefused :
    ({ fresh [] with inbox := [overlapping] } : State).bench = none ∧
      ({ fresh [] with inbox := [overlapping] } : State).inbox = [overlapping] ∧ overlapping.overlaps = true :=
  ⟨rfl, rfl, rfl⟩

theorem witness_StepTakesOneCall :
    (step pending = .next { fresh [] with ends := [.returned (.err .unsupported)] } ∧ pending.bench = none) ∧
      (∃ t, step onBench = .next t) ∧ onBench.bench ≠ none := ⟨⟨rfl, rfl⟩, ⟨_, rfl⟩, by decide⟩

theorem witness_DecodeOfEncode :
    params2.Valid ∧ wellFormed params2 (.remap [0xAA, 0xBB]) = true ∧ wellFormed params2 (.data [0]) = true ∧
      wellFormed params2 (.setPixelFormat (.other 0)) = true := by decide

theorem witness_EncodeOfDecode : decode params2 (.wire .low [0x30, 0xAA, 0xBB]) = .ok (.remap [0xAA, 0xBB]) := rfl

theorem witness_StreamOfCommandsDecodes :
    params2.Valid ∧ ∀ i ∈ [Instr.remap [1, 2], .displayOn], (wireParts params2 i).isSome = true ∧
      wellFormed params2 i = true := by decide

theorem witness_StreamDecoderRefuses :
    (0xFF : Byte) ∉ params2.opcodes.all ∧ params2.Valid ∧ (wireParts params2 (.remap [1, 2])).isSome = true ∧
      wellFormed params2 (.remap [1, 2]) = true ∧ 0 < 2 ∧ 2 < (commandBytes params2 (.remap [1, 2])).length := by decide

theorem witness_CollaboratorCallsRecordTheirAnswer :
    replyOf ((ready [.ok 1]).oracle.answer 0) = some .ok ∧ replyOf ((ready [.err]).oracle.answer 0) = some .err ∧
      lookupOf ((ready [.ok 1]).oracle.answer 0) = some (some { token := 1 }) ∧
      lookupOf ((ready [.err]).oracle.answer 0) = some none := by decide

/-- The first, the second and the third row of the table, and the two rows of a failed `GpioSet`. -/
theorem witness_SendFollowsItsTable :
    SendAnswers (fresh (oks 3)).oracle 0 (fresh []).params.encDcChecked [0x80] .ok .ok .ok ∧
      SendAnswers (fresh [.ok 0, .err]).oracle 0 (fresh []).params.encDcChecked [0x80] .ok .err .ok ∧
      SendAnswers (fresh [.ok 0, .ok 0, .err]).oracle 0 (fresh []).params.encDcChecked [0x80] .ok .ok .err ∧
      SendAnswers (fresh [.err, .ok 0]).oracle 0 false [] .err .ok .ok ∧
      SendAnswers (fresh [.err]).oracle 0 true [] .err .ok .ok := by
  refine ⟨⟨rfl, fun _ => ⟨rfl, fun _ _ => rfl⟩⟩, ⟨rfl, fun _ => ⟨rfl, fun h => by cases h⟩⟩,
    ⟨rfl, fun _ => ⟨rfl, fun _ _ => rfl⟩⟩, ⟨rfl, fun _ => ⟨rfl, fun _ h => absurd rfl h⟩⟩,
    ⟨rfl, fun h => absurd ⟨rfl, rfl⟩ h⟩⟩

theorem witness_SendDataShortCircuits :
    DataAnswers (fresh [.err]).oracle 0 .err .ok .ok ∧ DataAnswers (fresh [.ok 0, .err]).oracle 0 .ok .err .ok ∧
      DataAnswers (fresh [.ok 0, .ok 0, .err]).oracle 0 .ok .ok .err ∧ DataAnswers (fresh (oks 3)).oracle 0 .ok .ok .ok := by
  refine ⟨⟨rfl, fun h => by cases h⟩, ⟨rfl, fun _ => ⟨rfl, fun h => by cases h⟩⟩,
    ⟨rfl, fun _ => ⟨rfl, fun _ => rfl⟩⟩, ⟨rfl, fun _ => ⟨rfl, fun _ => rfl⟩⟩⟩

/-- Both rows of the table that the parameter ENC_DC_CHECKED tells apart. -/
theorem witness_WireCommandsFollowTheSendTable :
    wireParts referenceParams (.rowAddr 5 63) = some (0x02, [5, 63]) ∧ (ready []).life = .initialized ∧
      SendAnswers (ready [.err, .ok 0, .err]).oracle 0 false [5, 63] .err .ok .err ∧
      SendAnswers (ready [.err]).oracle 0 true [5, 63] .err .ok .ok ∧
      SendAnswers (ready (oks 2)).oracle 0 false [] .ok .ok .ok := by
  refine ⟨rfl, rfl, ⟨rfl, fun _ => ⟨rfl, fun _ _ => rfl⟩⟩, ⟨rfl, fun h => absurd ⟨rfl, rfl⟩ h⟩,
    ⟨rfl, fun _ => ⟨rfl, fun _ h => absurd rfl h⟩⟩⟩

theorem witness_DataPhaseShortCircuits :
    (ready []).life = .initialized ∧
      DataAnswers (ready [.err]).oracle 0 .err .ok .ok ∧ DataAnswers (ready [.ok 0, .err]).oracle 0 .ok .err .ok ∧
      DataAnswers (ready [.ok 0, .ok 0, .err]).oracle 0 .ok .ok .err := by
  refine ⟨rfl, ⟨rfl, fun h => by cases h⟩, ⟨rfl, fun _ => ⟨rfl, fun h => by cases h⟩⟩,
    ⟨rfl, fun _ => ⟨rfl, fun _ => rfl⟩⟩⟩

theorem witness_BusOperationsNeedInitialize :
    usesBus (.write 0 0 e1) = true ∧ State.reset.life = .uninitialized := ⟨rfl, rfl⟩

theorem witness_WireRowsNeedInitialize : isWire (.data [1]) = true ∧ State.reset.life = .uninitialized := ⟨rfl, rfl⟩

/-- A witness for each of the three clauses, and each of the three failures of the last. -/
theorem witness_InitializeAcquiresInOrder :
    (ready []).life = .initialized ∧ (fresh []).life = .uninitialized ∧
      InitAnswers (fresh [.ok 3, .ok 4, .ok 0]).oracle (some { token := 3 }) (some { token := 4 }) .ok ∧
      InitAnswers (fresh [.err]).oracle none none .ok ∧
      InitAnswers (fresh [.ok 3, .err]).oracle (some { token := 3 }) none .ok ∧
      InitAnswers (fresh [.ok 3, .ok 4, .err]).oracle (some { token := 3 }) (some { token := 4 }) .err := by
  refine ⟨rfl, rfl, ⟨rfl, fun _ => ⟨rfl, fun _ => rfl⟩⟩, ⟨rfl, fun h => absurd rfl h⟩,
    ⟨rfl, fun _ => ⟨rfl, fun h => absurd rfl h⟩⟩, ⟨rfl, fun _ => ⟨rfl, fun _ => rfl⟩⟩⟩

theorem witness_BlankingSendsAndRecords :
    (fresh []).life = .uninitialized ∧ (ready (oks 2)).life = .initialized ∧
      SendAnswers (ready (oks 2)).oracle 0 (ready []).params.encDcChecked [] .ok .ok .ok ∧
      SendAnswers (ready [.ok 0, .err]).oracle 0 (ready []).params.encDcChecked [] .ok .err .ok := by
  refine ⟨rfl, rfl, ⟨rfl, fun _ => ⟨rfl, fun _ h => absurd rfl h⟩⟩, ⟨rfl, fun _ => ⟨rfl, fun h => by cases h⟩⟩⟩

theorem witness_SetContrastSendsAndRecords :
    (fresh []).life = .uninitialized ∧ (ready (oks 3)).life = .initialized ∧
      SendAnswers (ready (oks 3)).oracle 0 (ready []).params.encDcChecked [0xFF] .ok .ok .ok ∧
      SendAnswers (ready [.ok 0, .ok 0, .err]).oracle 0 (ready []).params.encDcChecked [0xFF] .ok .ok .err := by
  refine ⟨rfl, rfl, ⟨rfl, fun _ => ⟨rfl, fun _ _ => rfl⟩⟩, ⟨rfl, fun _ => ⟨rfl, fun _ _ => rfl⟩⟩⟩

/-- A null buffer, an empty one, and a window one column byte too wide (T14). -/
theorem witness_WritePreconditionsInOrder :
    (fresh []).life = .uninitialized ∧ (ready []).life = .initialized ∧
      ({ buf := none, bufSize := 1, pitch := none } : WriteRegion).buf = none ∧ (region [] none).bufSize = 0 ∧
      e1.buf ≠ none ∧ e1.bufSize ≠ 0 ∧ ¬inRange (ready []).params (computeWindow (ready []).params 110 0 e1.pitch) := by
  refine ⟨rfl, rfl, rfl, rfl, by decide, by decide, by decide⟩

/-- E1 is accepted; so is the window with start after end of T9. -/
theorem e1_accepted (script : List Answer) : Accepted (ready script) 10 5 e1 [0xAB] :=
  ⟨rfl, rfl, by decide, show inRange referenceParams (computeWindow referenceParams 10 5 (some 20)) by decide⟩

theorem t9_accepted (script : List Answer) : Accepted (ready script) 2 0 (region [0x11] (some 1)) [0x11] :=
  ⟨rfl, rfl, by decide, show inRange referenceParams (computeWindow referenceParams 2 0 (some 1)) by decide⟩

/-- All nine answers `Ok` (W1), and a failed row opcode (W2), which moves the answers of the column command. -/
theorem witness_WriteSendsWindowThenPayload :
    Accepted (ready (oks 9)) 10 5 e1 [0xAB] ∧
      (SendAnswers (ready (oks 9)).oracle 0 false [5, 63] .ok .ok .ok ∧
        SendAnswers (ready (oks 9)).oracle 3 false [5, 14] .ok .ok .ok ∧
        DataAnswers (ready (oks 9)).oracle 6 .ok .ok .ok) ∧
      SendAnswers (ready (.ok 0 :: .err :: oks 6)).oracle 0 false [5, 63] .ok .err .ok ∧
        SendAnswers (ready (.ok 0 :: .err :: oks 6)).oracle 2 false [5, 14] .ok .ok .ok ∧
        DataAnswers (ready (.ok 0 :: .err :: oks 6)).oracle 5 .ok .ok .ok := by
  refine ⟨e1_accepted _, ⟨⟨rfl, fun _ => ⟨rfl, fun _ _ => rfl⟩⟩, ⟨rfl, fun _ => ⟨rfl, fun _ _ => rfl⟩⟩,
    ⟨rfl, fun _ => ⟨rfl, fun _ => rfl⟩⟩⟩, ⟨rfl, fun _ => ⟨rfl, fun h => by cases h⟩⟩,
    ⟨rfl, fun _ => ⟨rfl, fun _ _ => rfl⟩⟩, ⟨rfl, fun _ => ⟨rfl, fun _ => rfl⟩⟩⟩

theorem witness_PayloadIsTheBuffer : 2 ≤ ([1, 2] : List Byte).length ∧ 1 < 2 ∧ 1 < ([1, 2] : List Byte).length := by
  decide

/-- For every statement about an accepted `write` that answers a next state. -/
theorem witness_accepted_write :
    Accepted (ready (oks 9)) 10 5 e1 [0xAB] ∧ ∃ t, exec (.write 10 5 e1) (ready (oks 9)) = .next t ∧
      t.trace = (ready (oks 9)).trace ++
        (addressing ++ [.setDC .high .ok, .xfer .data [0xAB] .ok, .setDC .low .ok]) :=
  ⟨e1_accepted _, _, rfl, rfl⟩

theorem witness_AddressingFailuresAreSwallowed :
    Accepted (ready (.ok 0 :: .err :: oks 6)) 10 5 e1 [0xAB] ∧
      ∃ t, exec (.write 10 5 e1) (ready (.ok 0 :: .err :: oks 6)) = .next t :=
  ⟨e1_accepted _, _, rfl⟩

theorem witness_SetPixelFormatKnowsOneFormat : PixelFormat.other 0 ≠ .gray4 := by decide

/-- The smallest and the largest panel. -/
theorem witness_WindowInRangeByOperands :
    (panel 2 1).Valid ∧ (panel 512 256).Valid ∧ (some 1 : Option HalfWord) = some 1 ∧
      0 < (1 : HalfWord).toNat ∧ (1 : HalfWord).toNat < (panel 2 1).width ∧ (108 : HalfWord).toNat % 2 = 0 := by decide

theorem witness_WindowLaws :
    referenceParams.Valid ∧ 0 < (127 : HalfWord).toNat ∧ (127 : HalfWord).toNat < referenceParams.width ∧
      referenceParams.width ≤ (128 : HalfWord).toNat ∧ (0 : HalfWord).toNat = 0 := by decide

theorem witness_OddOperandsAreFloored :
    referenceParams.Valid ∧ (11 : HalfWord).toNat = 2 * 5 + 1 ∧ (127 : HalfWord).toNat = (126 : HalfWord).toNat + 1 ∧
      (126 : HalfWord).toNat % 2 = 0 ∧ 0 < (126 : HalfWord).toNat ∧ (127 : HalfWord).toNat < referenceParams.width ∧
      (1 : HalfWord).toNat = 1 := by decide

theorem witness_NegativeColumnEnd :
    referenceParams.Valid ∧ (computeWindow referenceParams 1 0 (some 1)).colEnd < 0 := by decide

theorem witness_WindowWidth :
    referenceParams.Valid ∧ (108 : HalfWord).toNat % 2 = 0 ∧ (20 : HalfWord).toNat % 2 = 0 ∧ 0 < (20 : HalfWord).toNat ∧
      (20 : HalfWord).toNat < referenceParams.width ∧
      inRange referenceParams (computeWindow referenceParams 108 0 (some 20)) ∧
      referenceParams.width ≤ (128 : HalfWord).toNat := by decide

theorem witness_WindowSentLiesInsideThePanel :
    (ready (oks 9)).params.Valid ∧ Accepted (ready (oks 9)) 10 5 e1 [0xAB] ∧
      ∃ t, exec (.write 10 5 e1) (ready (oks 9)) = .next t ∧ t.trace = (ready (oks 9)).trace ++
        (addressing ++ [.setDC .high .ok, .xfer .data [0xAB] .ok, .setDC .low .ok]) :=
  ⟨reference_valid, e1_accepted _, _, rfl, rfl⟩

theorem ready_inv (script : List Answer) : (ready script).Inv :=
  ⟨fun h => (by cases h), fun _ => ⟨rfl, rfl, rfl, rfl⟩, fun c h => (by cases h; rfl)⟩

/-- An initialized block that steps, with an unblank pending. -/
def busy : State :=
  { ready (oks 2) with inbox := [ask "unblank" []] }

theorem witness_StepKeepsInvariant : busy.Inv ∧ ∃ t, step busy = .next t :=
  ⟨⟨fun h => (by cases h), fun _ => ⟨rfl, rfl, rfl, rfl⟩, fun c h => (by cases h; rfl)⟩, _, rfl⟩

/-- One step from reset with `initialize` pending is reachable, and initialized. -/
theorem witness_Reachable : ∃ s, Reachable referenceParams s ∧ s.life = .initialized ∧ ∀ e ∈ s.trace, e.isOk = true :=
  ⟨_, .step _ _ (.reset { script := oks 3, drawn := 0 }
    [ask "initialize" [.config referenceInst]]) rfl, rfl, by decide⟩

theorem witness_TraceOnlyGrows : ∃ t, step busy = .next t ∧ t.trace.length = 2 := ⟨_, rfl, rfl⟩

theorem witness_RefusalMarkIsSticky :
    ({ busy with refused := true } : State).refused = true ∧ (∃ t, step { busy with refused := true } = .next t) ∧
      ∃ t, exec .unblank (fresh []) = .next t := ⟨rfl, ⟨_, rfl⟩, _, rfl⟩

theorem witness_OnlyInitializeLeavesUninitialized :
    ∃ t, exec (.initDevice referenceInst) (fresh (oks 3)) = .next t ∧ t.life ≠ (fresh (oks 3)).life :=
  ⟨_, rfl, by decide⟩

theorem witness_AcquiredFieldsStay : busy.life = .initialized ∧ ∃ t, step busy = .next t := ⟨rfl, _, rfl⟩

theorem witness_FieldsWrittenByTheAccessTable :
    ∃ t, exec .unblank (ready (oks 2)) = .next t ∧ t.displayOn ≠ (ready (oks 2)).displayOn := ⟨_, rfl, by decide⟩

theorem witness_ErrorsByOperation :
    ∃ t, exec (.write 10 5 e1) (ready (oks 6 ++ [.err])) = .next t ∧
      t.ends = (ready []).ends ++ [.returned (.err .ioError)] := ⟨_, rfl, rfl⟩

theorem witness_EveryInstructionCompletes : ∀ k, k < 9 → (ready (oks 9)).oracle.answer k ≠ .never := by decide

theorem witness_OnlyAHungCallStops :
    exec .unblank (ready [.never]) = .fault .collaboratorNeverReturns ∧ (fresh [.never]).life = .uninitialized ∧
      (fresh [.never]).oracle.answer 0 = .never ∧ (ready [.never]).life = .initialized ∧
      (ready [.never]).oracle.answer 0 = .never ∧ isWire .displayOn = true ∧ Accepted (ready [.never]) 10 5 e1 [0xAB] :=
  ⟨rfl, rfl, rfl, rfl, rfl, rfl, e1_accepted _⟩

theorem witness_DiscriminatorSequencing :
    (∃ t, exec .unblank (ready (oks 2)) = .next t ∧
      t.trace = (ready (oks 2)).trace ++ [.setDC .low .ok, .xfer .cmd [0x04] .ok]) ∧
    (∃ t, exec (.data [1]) (ready (oks 3)) = .next t ∧
      t.trace = (ready (oks 3)).trace ++ [.setDC .high .ok, .xfer .data [1] .ok, .setDC .low .ok]) ∧
    Accepted (ready (oks 9)) 10 5 e1 [0xAB] ∧ ∃ t, exec (.write 10 5 e1) (ready (oks 9)) = .next t ∧
      t.trace = (ready (oks 9)).trace ++
        (addressing ++ [.setDC .high .ok, .xfer .data [0xAB] .ok, .setDC .low .ok]) :=
  ⟨⟨_, rfl, rfl⟩, ⟨_, rfl, rfl⟩, witness_accepted_write⟩

theorem witness_TransfersAreNeverEmpty :
    wellFormed (ready (oks 3)).params (.data [1]) = true ∧ ∃ t, exec (.data [1]) (ready (oks 3)) = .next t ∧
      t.trace = (ready (oks 3)).trace ++ [.setDC .high .ok, .xfer .data [1] .ok, .setDC .low .ok] := ⟨rfl, _, rfl, rfl⟩

theorem witness_RecordsDoNotInterfere : ∃ t, exec (.setContrast 1) (ready (oks 3)) = .next t := ⟨_, rfl⟩

theorem witness_StepKeepsTraceDecodable : busy.params.Valid ∧ busy.WireOk ∧ ∃ t, step busy = .next t :=
  ⟨reference_valid, fun _ => ⟨[], rfl⟩, _, rfl⟩

theorem witness_WireTrafficIsTheExpansion :
    (ready (oks 9)).params.Valid ∧ wellFormed (ready (oks 9)).params (.write 10 5 e1) = true ∧
      e1.buf = some [0xAB] ∧ e1.bufSize ≤ ([0xAB] : List Byte).length ∧
      ∃ t, exec (.write 10 5 e1) (ready (oks 9)) = .next t ∧ t.trace = (ready (oks 9)).trace ++
        (addressing ++ [.setDC .high .ok, .xfer .data [0xAB] .ok, .setDC .low .ok]) ∧
        (∃ res, t.ends = (ready (oks 9)).ends ++ [.returned res]) ∧
        ∀ e ∈ addressing ++ [.setDC .high .ok, .xfer .data [0xAB] .ok, .setDC .low .ok], e.isOk = true :=
  ⟨reference_valid, rfl, rfl, by decide, _, rfl, rfl, ⟨_, rfl⟩, by decide⟩

theorem witness_LineBitsDetermineTheBytes : lineBits referenceParams [0x12] = lineBits referenceParams [0x12] := rfl

theorem witness_HostCannotCallTheEncoder :
    decode referenceParams (.call { op := "unblank", args := [] }) = .ok .unblank ∧
      ∃ s t, Reachable referenceParams s ∧ step s = .next t :=
  ⟨rfl, _, _, .reset { script := oks 3, drawn := 0 } [ask "initialize" [.config referenceInst]], rfl⟩

theorem witness_StepSendsOnlyTheFiveOpcodes : busy.HostDriven ∧ ∃ t, step busy = .next t ∧ opcodesSent t.trace = [0x04] :=
  ⟨⟨rfl, by decide⟩, _, rfl, rfl⟩

theorem witness_ReachableTracesHoldNoRemap :
    referenceParams.Valid ∧ ∃ s, Reachable referenceParams s ∧ s.trace ≠ [] :=
  ⟨reference_valid, _, .step _ _ (.reset { script := oks 3, drawn := 0 } [ask "initialize" [.config referenceInst]]) rfl,
    by decide⟩

theorem witness_OpcodePositionIsTheOpcodeTransfer : ∀ d bs ans, Event.setDC .low .ok ≠ .xfer d bs ans := by
  intro d bs ans h
  cases h

/-- R80: the host cannot name a wire command; from the bench the same command runs. -/
theorem test_host_cannot_send_remap :
    step { ready (oks 3) with inbox := [ask "REMAP" []] } = .refused (.undecodable (.unknownOperation "REMAP")) ∧
      seen (step ((ready (oks 3)).withBench { level := .low, bytes := [0x03] })) =
        some ([.setDC .low .ok, .xfer .cmd [0x03] .ok], [.returned .ok], .cmd) := ⟨rfl, rfl⟩

end Sys2Proof.Tests
end

section
/-! PROOFS. `MemRead` (R16, R50): its length and its bytes, and from them that the payload is the buffer (R129). -/
namespace Sys2Proof.Machine

@[simp] theorem length_memRead (drawn : Nat) (buf : List Byte) (n : Nat) : (memRead drawn buf n).length = n := by
  simp [memRead]

/-- The one place where the stray bytes of log 11 show: they stand only at indices that the buffer does not hold. -/
@[simp] theorem getElem_memRead (drawn : Nat) (buf : List Byte) (n k : Nat) (hk : k < (memRead drawn buf n).length) :
    (memRead drawn buf n)[k] = (buf[k]?).getD (Config.strayByte drawn k) := by
  simp [memRead]

theorem getElem?_memRead_of_lt {buf : List Byte} {n k : Nat} (drawn : Nat) (hn : k < n) (hbuf : k < buf.length) :
    (memRead drawn buf n)[k]? = buf[k]? := by
  have hread : k < (memRead drawn buf n).length := by simpa using hn
  rw [List.getElem?_eq_getElem hread, getElem_memRead, List.getElem?_eq_getElem hbuf, Option.getD_some]

/-- Byte by byte: below `n` both sides are the buffer's byte, and both end at `n`. -/
theorem memRead_eq_take {buf : List Byte} {n : Nat} (drawn : Nat) (h : n ≤ buf.length) :
    memRead drawn buf n = buf.take n := by
  refine List.ext_getElem? fun k => ?_
  by_cases hk : k < n
  · rw [getElem?_memRead_of_lt drawn hk (by omega), List.getElem?_take_of_lt hk]
  · rw [List.getElem?_eq_none (by simpa using hk), List.getElem?_eq_none (by simp; omega)]

end Sys2Proof.Machine

namespace Sys2Proof.Proofs
open Sys2Proof.Machine

/-- Settles O25: the length, the prefix and the bytes are each a fact about `memRead`. -/
theorem payloadIsTheBuffer : Obligations.PayloadIsTheBuffer := fun drawn buf n =>
  ⟨length_memRead drawn buf n, memRead_eq_take drawn, fun _ => getElem?_memRead_of_lt drawn⟩

end Sys2Proof.Proofs
end

section
/-! PROOFS. Whatever decodes is well-formed: the decoder makes the checks of R10, R12, R13 and R91 itself. -/
namespace Sys2Proof

/-- REMAP is the one command whose length is checked (R10); the others are well-formed as they stand. -/
theorem takeCommand_wellFormed {p : Params} {o : Opcode} {bs rest : List Byte} {i : Instr}
    (h : takeCommand p o bs = .ok (i, rest)) : wellFormed p i = true := by
  unfold takeCommand at h
  split at h
  case h_5 =>
    split at h
    · cases h
    · cases h
      simp only [wellFormed, List.length_take, beq_iff_eq]
      omega
  all_goals cases h
  all_goals rfl

theorem decodeCommand_wellFormed {p : Params} {bs rest : List Byte} {i : Instr}
    (h : decodeCommand p bs = .ok (i, rest)) : wellFormed p i = true := by
  unfold decodeCommand at h
  split at h
  · cases h
  · split at h
    · cases h
    · exact takeCommand_wellFormed h

theorem decodeWrite_wellFormed {p : Params} {x y size : Nat} {buf pitch : Arg} {i : Instr}
    (h : decodeWrite x y buf size pitch = some i) : wellFormed p i = true := by
  unfold decodeWrite at h
  split at h
  · cases h
    rfl
  · cases h

theorem decodeCall_wellFormed {p : Params} {c : Call} {i : Instr} (h : decodeCall p c = .ok i) :
    wellFormed p i = true := by
  unfold decodeCall at h
  split at h
  case h_1 cfg _ _ =>
    split at h
    · rename_i hcfg
      cases h
      simpa [wellFormed] using hcfg
    · cases h
  case h_4 =>
    split at h
    · rename_i hw
      cases h
      exact decodeWrite_wellFormed hw
    · cases h
  case h_8 =>
    split at h
    · cases h
      rfl
    · cases h
  case h_10 =>
    split at h
    · rename_i hf
      cases h
      exact hf
    · cases h
  case h_12 => split at h <;> cases h
  all_goals cases h
  all_goals rfl

theorem decode_wellFormed {p : Params} {b : Body} {i : Instr} (h : decode p b = .ok i) : wellFormed p i = true := by
  unfold decode at h
  split at h
  · exact decodeCall_wellFormed h
  · split at h
    · cases h
    · rename_i hc
      cases h
      exact decodeCommand_wellFormed hc
    · cases h
  · cases h
  · cases h
    rfl

/-- R12: the configuration that a decoded `initDevice` carries is the one in the parameters (log 9). -/
theorem decode_initDevice {p : Params} {b : Body} {cfg : InstanceConfig} (h : decode p b = .ok (.initDevice cfg)) :
    cfg = p.inst := by
  simpa [wellFormed] using decode_wellFormed h

end Sys2Proof
end

section
/-! PROOFS. What a run of collaborator calls does to the trace and the oracle (R30, R45), and how many calls each shared
operation makes at most. -/
namespace Sys2Proof.Machine

/-- The trace has grown by one event for each answer drawn from the oracle, and `n` answers at most were drawn. -/
def MadeCalls (n : Nat) (s t : State) : Prop :=
  ∃ evs, t.trace = s.trace ++ evs ∧ t.oracle = s.oracle.advance evs.length ∧ evs.length ≤ n

namespace MadeCalls

theorem of_eq {s t : State} (htrace : t.trace = s.trace) (horacle : t.oracle = s.oracle) : MadeCalls 0 s t :=
  ⟨[], by simpa using htrace, by simpa using horacle, Nat.le_refl 0⟩

theorem refl (s : State) : MadeCalls 0 s s :=
  of_eq rfl rfl

theorem called {n : Nat} {s t : State} (h : MadeCalls n s t) (e : Event) : MadeCalls (n + 1) s (t.called e) := by
  obtain ⟨evs, htrace, horacle, hlen⟩ := h
  exact ⟨evs ++ [e], by simp [htrace], by simp [horacle], by simpa using hlen⟩

theorem trans {m n : Nat} {s t u : State} (h : MadeCalls m s t) (k : MadeCalls n t u) : MadeCalls (m + n) s u := by
  obtain ⟨evs, htrace, horacle, hlen⟩ := h
  obtain ⟨evs', htrace', horacle', hlen'⟩ := k
  exact ⟨evs ++ evs', by simp [htrace, htrace'], by simp [horacle, horacle'], by simp; omega⟩

theorem mono {m n : Nat} {s t : State} (h : MadeCalls m s t) (hmn : m ≤ n) : MadeCalls n s t := by
  obtain ⟨evs, htrace, horacle, hlen⟩ := h
  exact ⟨evs, htrace, horacle, hlen.trans hmn⟩

/-- An update that touches neither the trace nor the oracle may follow. -/
theorem congr {n : Nat} {s t u : State} (h : MadeCalls n s t) (htrace : u.trace = t.trace)
    (horacle : u.oracle = t.oracle) : MadeCalls n s u :=
  h.trans (of_eq htrace horacle)

theorem drive {n : Nat} {s t : State} (h : MadeCalls n s t) (d : Dc) : MadeCalls n s (t.drive d) :=
  h.congr rfl rfl

end MadeCalls

theorem send_madeCalls {opc : Byte} {ps : List Byte} {s t : State} {r : Reply} (h : send opc ps s = some (r, t)) :
    MadeCalls 3 s t := by
  have hlow (g : Reply) : MadeCalls 1 s ((s.called (.setDC .low g)).drive (dcAfter .low g)) :=
    ((MadeCalls.refl s).called _).drive _
  obtain ⟨g, -, ⟨-, -, -, rfl⟩ | ⟨-, x, -, ⟨-, -, rfl⟩ | ⟨-, -, -, rfl⟩ | ⟨-, -, -, rfl⟩⟩⟩ := send_cases h
  · exact (hlow g).mono (by decide)
  · exact ((hlow g).called _).mono (by decide)
  · exact ((hlow g).called _).mono (by decide)
  · exact ((hlow g).called _).called _

theorem sendData_madeCalls {bytes : List Byte} {s t : State} {r : Reply} (h : sendData bytes s = some (r, t)) :
    MadeCalls 3 s t := by
  have hhigh (up : Reply) (d : Dc) : MadeCalls 1 s ((s.called (.setDC .high up)).drive d) :=
    ((MadeCalls.refl s).called _).drive _
  obtain ⟨-, -, rfl⟩ | ⟨-, -, -, rfl⟩ | ⟨-, -, -, rfl⟩ := sendData_cases h
  · exact (hhigh _ _).mono (by decide)
  · exact ((hhigh _ _).called _).mono (by decide)
  · exact (((hhigh _ _).called _).called _).drive _

/-- R127: two commands of three calls at most, and a payload phase of three. -/
theorem writeRegion_madeCalls {w : Window} {buf : List Byte} {n : Nat} {s t : State} {r : Reply}
    (h : writeRegion w buf n s = some (r, t)) : MadeCalls 9 s t := by
  obtain ⟨r1, s1, r2, s2, hrow, hcol, hdata⟩ := writeRegion_cases h
  exact ((send_madeCalls hrow).trans (send_madeCalls hcol)).trans (sendData_madeCalls hdata)

/-- What the calls of `initDevice` do before it writes its own fields (R121): events of setup only, the line untouched. -/
structure SetupCalls (n : Nat) (s t : State) : Prop where
  onlyWire : OnlyWire s t
  dc : t.dc = s.dc
  calls : MadeCalls n s t
  setup : (∀ e ∈ s.trace, e.isSetup = true) → ∀ e ∈ t.trace, e.isSetup = true

namespace SetupCalls

theorem first (s : State) {e : Event} (he : e.isSetup = true) : SetupCalls 1 s (s.called e) :=
  ⟨called_onlyWire e s, rfl, (MadeCalls.refl s).called e, fun hs e' he' => by
    obtain h | rfl := by simpa using he'
    · exact hs e' h
    · exact he⟩

theorem trans {m n : Nat} {s t u : State} (h : SetupCalls m s t) (k : SetupCalls n t u) : SetupCalls (m + n) s u :=
  ⟨h.onlyWire.trans k.onlyWire, k.dc.trans h.dc, h.calls.trans k.calls, fun hs => k.setup (h.setup hs)⟩

theorem called {n : Nat} {s t : State} (h : SetupCalls n s t) {e : Event} (he : e.isSetup = true) :
    SetupCalls (n + 1) s (t.called e) :=
  h.trans (first t he)

theorem mono {m n : Nat} {s t : State} (h : SetupCalls m s t) (hmn : m ≤ n) : SetupCalls n s t :=
  ⟨h.onlyWire, h.dc, h.calls.mono hmn, h.setup⟩

end SetupCalls

/-- The body of `initDevice` either fails, after setup calls alone, or writes its fields after them (R121, R122). -/
theorem acquireAll_setup {cfg : InstanceConfig} {s t : State} {r : Result} (h : acquireAll cfg s = some (r, t)) :
    (r = .err .initError ∧ SetupCalls 3 s t) ∨
      (r = .ok ∧ ∃ b g u, SetupCalls 3 s u ∧ t = u.acquire b g (busConfigOf cfg)) := by
  have hbus (found : Bool) : SetupCalls 1 s (s.called (.getBus cfg.busName found)) := .first s rfl
  obtain ⟨-, rfl, rfl⟩ | ⟨b, -, ⟨-, rfl, rfl⟩ | ⟨g, -, ⟨-, rfl, rfl⟩ | ⟨-, rfl, rfl⟩⟩⟩ := acquireAll_cases h
  · exact .inl ⟨rfl, (hbus _).mono (by decide)⟩
  · exact .inl ⟨rfl, ((hbus _).called rfl).mono (by decide)⟩
  · exact .inl ⟨rfl, ((hbus _).called rfl).called rfl⟩
  · exact .inr ⟨rfl, b, g, _, ((hbus _).called rfl).called rfl, rfl⟩

end Sys2Proof.Machine
end

section
/-! PROOFS. The effect of an instruction on the state, by the fields it writes (R33): `Ran` with its collaborator calls
summed up, so that each frame rule and the invariant are one case analysis. -/
namespace Sys2Proof.Machine
open Sys2Proof.Spec

/-- The ways in which an instruction changes `s`, told apart by the fields written. -/
inductive Effect (s : State) : Instr → State → Prop where
  /-- Refused (R166). -/
  | refused (i : Instr) (why : RefuseReason) (hquiet : touchesNothing i = false) : Effect s i (s.refuse why)
  /-- Answered without a collaborator call (R132 to R137). -/
  | answered (i : Instr) (r : Result) : Effect s i (s.ret r)
  /-- `initDevice`, a step of which failed (R121). -/
  | initFailed (cfg : InstanceConfig) (u : State) (hlife : s.life = .uninitialized) (hcalls : SetupCalls 3 s u) :
      Effect s (.initDevice cfg) (u.ret (.err .initError))
  /-- `initDevice`, successful (R121). -/
  | initialized (cfg : InstanceConfig) (b g : Handle) (u : State) (hlife : s.life = .uninitialized)
      (hcalls : SetupCalls 3 s u) : Effect s (.initDevice cfg) ((u.acquire b g (busConfigOf cfg)).ret .ok)
  /-- An operation that uses the bus and writes no record. -/
  | wired (i : Instr) (r : Result) (u : State) (hlife : s.life = .initialized) (hquiet : touchesNothing i = false)
      (hinit : ∀ cfg, i ≠ .initDevice cfg) (hwire : OnlyWire s u) (hcalls : MadeCalls 9 s u) : Effect s i (u.ret r)
  /-- unblank or blank, answered `Ok` (R123, R124). -/
  | displayed (i : Instr) (d : Display) (u : State) (hlife : s.life = .initialized) (hi : i = .unblank ∨ i = .blank)
      (hwire : OnlyWire s u) (hcalls : MadeCalls 9 s u) : Effect s i ((u.setDisplay d).ret .ok)
  /-- set_contrast, answered `Ok` (R131). -/
  | contrasted (v : Byte) (u : State) (hlife : s.life = .initialized) (hwire : OnlyWire s u)
      (hcalls : MadeCalls 9 s u) : Effect s (.setContrast v) ((u.setContrast v).ret .ok)

theorem touchesNothing_eq_isSome_answerOf (p : Params) (i : Instr) : touchesNothing i = (answerOf p i).isSome := by
  cases i <;> rfl

/-- What a wire command is not: a quiet operation, or `initDevice`. -/
theorem touchesNothing_of_sentBy {p : Params} {i : Instr} {c : Byte × List Byte} (h : sentBy p i = some c) :
    touchesNothing i = false ∧ ∀ cfg, i ≠ .initDevice cfg := by
  cases i <;> simp [sentBy, touchesNothing] at h ⊢

/-- The three operations that write a record, and what each writes. -/
theorem recordedBy_cases {p : Params} {i : Instr} {opc : Byte} {ps : List Byte} {f : State → State}
    (h : recordedBy p i = some (opc, ps, f)) :
    ((i = .unblank ∨ i = .blank) ∧ ∃ d, f = State.setDisplay d) ∨ ∃ v, i = .setContrast v ∧ f = State.setContrast v := by
  cases i <;> simp only [recordedBy, Option.some.injEq, Prod.mk.injEq, reduceCtorEq] at h
  · exact .inl ⟨.inl rfl, _, h.2.2.symm⟩
  · exact .inl ⟨.inr rfl, _, h.2.2.symm⟩
  · exact .inr ⟨_, rfl, h.2.2.symm⟩

theorem touchesNothing_of_recordedBy {p : Params} {i : Instr} {opc : Byte} {ps : List Byte} {f : State → State}
    (h : recordedBy p i = some (opc, ps, f)) : touchesNothing i = false ∧ ∀ cfg, i ≠ .initDevice cfg := by
  obtain ⟨rfl | rfl, -⟩ | ⟨v, rfl, -⟩ := recordedBy_cases h <;> simp [touchesNothing]

theorem Ran.effect {s t : State} {i : Instr} (h : Ran s i t) : Effect s i t := by
  cases h with
  | refused i why h => exact .refused _ why (by simp [touchesNothing_eq_isSome_answerOf s.params, h])
  | answered i r h => exact .answered _ r
  | acquired cfg r u hl h =>
    obtain ⟨rfl, hcalls⟩ | ⟨rfl, b, g, v, hcalls, rfl⟩ := acquireAll_setup h
    · exact .initFailed cfg u hl hcalls
    · exact .initialized cfg b g v hl hcalls
  | sent i opc ps r u hl hi h =>
    obtain ⟨hquiet, hinit⟩ := touchesNothing_of_sentBy hi
    exact .wired _ _ u hl hquiet hinit (send_onlyWire h) ((send_madeCalls h).mono (by decide))
  | recorded i opc ps f u hl hi h =>
    have hcalls : MadeCalls 9 s u := (send_madeCalls h).mono (by decide)
    obtain ⟨hon, d, rfl⟩ | ⟨v, rfl, rfl⟩ := recordedBy_cases hi
    · exact .displayed _ d u hl hon (send_onlyWire h) hcalls
    · exact .contrasted v u hl (send_onlyWire h) hcalls
  | unrecorded i opc ps f u hl hi h =>
    obtain ⟨hquiet, hinit⟩ := touchesNothing_of_recordedBy hi
    exact .wired _ _ u hl hquiet hinit (send_onlyWire h) ((send_madeCalls h).mono (by decide))
  | data bs r u hl h =>
    exact .wired _ _ u hl rfl nofun (sendData_onlyWire h) ((sendData_madeCalls h).mono (by decide))
  | written x y reg buf r u hl hb hn hw h =>
    exact .wired _ _ u hl rfl nofun (writeRegion_onlyWire h) (writeRegion_madeCalls h)

theorem exec_effect {i : Instr} {s t : State} (h : exec i s = .next t) : Effect s i t :=
  (exec_ran h).effect

/-! ### What an effect leaves unchanged -/

/-- The five fields that `initDevice` alone writes are unchanged (R22 to R25). -/
structure KeepsAcquired (s t : State) : Prop where
  life : t.life = s.life
  bus : t.bus = s.bus
  gpio : t.gpio = s.gpio
  busCfg : t.busCfg = s.busCfg
  dcOut : t.dcOut = s.dcOut

theorem OnlyWire.keepsAcquired {s t : State} (h : OnlyWire s t) : KeepsAcquired s t :=
  ⟨h.life, h.bus, h.gpio, h.busCfg, h.dcOut⟩

theorem KeepsAcquired.trans {s t u : State} (h : KeepsAcquired s t) (k : KeepsAcquired t u) : KeepsAcquired s u :=
  ⟨k.life.trans h.life, k.bus.trans h.bus, k.gpio.trans h.gpio, k.busCfg.trans h.busCfg, k.dcOut.trans h.dcOut⟩

theorem ret_keepsAcquired (r : Result) (s : State) : KeepsAcquired s (s.ret r) := by
  constructor <;> rfl

theorem refuse_keepsAcquired (why : RefuseReason) (s : State) : KeepsAcquired s (s.refuse why) := by
  constructor <;> rfl

theorem setDisplay_keepsAcquired (d : Display) (s : State) : KeepsAcquired s (s.setDisplay d) := by
  constructor <;> rfl

theorem setContrast_keepsAcquired (v : Byte) (s : State) : KeepsAcquired s (s.setContrast v) := by
  constructor <;> rfl

theorem taken_keepsAcquired (s : State) : KeepsAcquired s s.taken := by
  constructor <;> rfl

namespace Effect
variable {s t : State} {i : Instr}

/-- The acquired fields change in one way only. -/
theorem keepsAcquired_or_initialized (h : Effect s i t) :
    KeepsAcquired s t ∨
      ((∃ cfg, i = .initDevice cfg) ∧ s.life = .uninitialized ∧ t.life = .initialized ∧
        t.ends = s.ends ++ [.returned .ok]) := by
  cases h with
  | refused i why hquiet => exact .inl (refuse_keepsAcquired why s)
  | answered i r => exact .inl (ret_keepsAcquired r s)
  | initFailed cfg u hlife hcalls => exact .inl (hcalls.onlyWire.keepsAcquired.trans (ret_keepsAcquired _ u))
  | initialized cfg b g u hlife hcalls => exact .inr ⟨⟨cfg, rfl⟩, hlife, rfl, by simp [hcalls.onlyWire.ends]⟩
  | wired i r u hlife hquiet hinit hwire hcalls => exact .inl (hwire.keepsAcquired.trans (ret_keepsAcquired r u))
  | displayed i d u hlife hi hwire hcalls =>
    exact .inl ((hwire.keepsAcquired.trans (setDisplay_keepsAcquired d u)).trans (ret_keepsAcquired _ _))
  | contrasted v u hlife hwire hcalls =>
    exact .inl ((hwire.keepsAcquired.trans (setContrast_keepsAcquired v u)).trans (ret_keepsAcquired _ _))

theorem keepsAcquired (h : Effect s i t) (hi : ∀ cfg, i ≠ .initDevice cfg) : KeepsAcquired s t :=
  h.keepsAcquired_or_initialized.resolve_right fun ⟨⟨cfg, hcfg⟩, _⟩ => hi cfg hcfg

theorem keepsAcquired_of_initialized (h : Effect s i t) (hlife : s.life = .initialized) : KeepsAcquired s t :=
  h.keepsAcquired_or_initialized.resolve_right fun ⟨_, hun, _⟩ => by simp [hlife] at hun

/-- R120: the six operations that touch no collaborator only hand back a result. -/
theorem eq_ret_of_touchesNothing (h : Effect s i t) (hi : touchesNothing i = true) : ∃ r, t = s.ret r := by
  cases h with
  | answered i r => exact ⟨r, rfl⟩
  | refused i why hquiet => simp [hquiet] at hi
  | wired i r u hlife hquiet hinit hwire hcalls => simp [hquiet] at hi
  | displayed i d u hlife hi' hwire hcalls => obtain rfl | rfl := hi' <;> simp [touchesNothing] at hi
  | initFailed => simp [touchesNothing] at hi
  | initialized => simp [touchesNothing] at hi
  | contrasted => simp [touchesNothing] at hi

theorem dc_of_initDevice {cfg : InstanceConfig} (h : Effect s (.initDevice cfg) t) : t.dc = s.dc := by
  cases h with
  | refused i why hquiet => rfl
  | answered i r => rfl
  | initFailed cfg u hlife hcalls => exact hcalls.dc
  | initialized cfg b g u hlife hcalls => exact hcalls.dc
  | wired i r u hlife hquiet hinit hwire hcalls => exact absurd rfl (hinit cfg)
  | displayed i d u hlife hi hwire hcalls => simp at hi

theorem contrast (h : Effect s i t) (hi : ∀ v, i ≠ .setContrast v) : t.contrast = s.contrast := by
  cases h with
  | refused i why hquiet => rfl
  | answered i r => rfl
  | initFailed cfg u hlife hcalls => exact hcalls.onlyWire.contrast
  | initialized cfg b g u hlife hcalls => exact hcalls.onlyWire.contrast
  | wired i r u hlife hquiet hinit hwire hcalls => exact hwire.contrast
  | displayed i d u hlife hi' hwire hcalls => exact hwire.contrast
  | contrasted v u hlife hwire hcalls => exact absurd rfl (hi v)

theorem displayOn (h : Effect s i t) (hon : i ≠ .unblank) (hoff : i ≠ .blank) : t.displayOn = s.displayOn := by
  cases h with
  | refused i why hquiet => rfl
  | answered i r => rfl
  | initFailed cfg u hlife hcalls => exact hcalls.onlyWire.displayOn
  | initialized cfg b g u hlife hcalls => exact hcalls.onlyWire.displayOn
  | wired i r u hlife hquiet hinit hwire hcalls => exact hwire.displayOn
  | displayed i d u hlife hi hwire hcalls => exact absurd hi (not_or.2 ⟨hon, hoff⟩)
  | contrasted v u hlife hwire hcalls => exact hwire.displayOn

/-- The model's own fields that stand for the parameters and for the host. -/
theorem surroundings (h : Effect s i t) : t.params = s.params ∧ t.inbox = s.inbox ∧ t.bench = s.bench := by
  cases h with
  | refused i why hquiet => exact ⟨rfl, rfl, rfl⟩
  | answered i r => exact ⟨rfl, rfl, rfl⟩
  | initFailed cfg u hlife hcalls => exact ⟨hcalls.onlyWire.params, hcalls.onlyWire.inbox, hcalls.onlyWire.bench⟩
  | initialized cfg b g u hlife hcalls => exact ⟨hcalls.onlyWire.params, hcalls.onlyWire.inbox, hcalls.onlyWire.bench⟩
  | wired i r u hlife hquiet hinit hwire hcalls => exact ⟨hwire.params, hwire.inbox, hwire.bench⟩
  | displayed i d u hlife hi hwire hcalls => exact ⟨hwire.params, hwire.inbox, hwire.bench⟩
  | contrasted v u hlife hwire hcalls => exact ⟨hwire.params, hwire.inbox, hwire.bench⟩

theorem madeCalls (h : Effect s i t) : MadeCalls 9 s t := by
  cases h with
  | refused i why hquiet => exact (MadeCalls.of_eq rfl rfl).mono (by decide)
  | answered i r => exact (MadeCalls.of_eq rfl rfl).mono (by decide)
  | initFailed cfg u hlife hcalls => exact (hcalls.calls.mono (by decide)).congr rfl rfl
  | initialized cfg b g u hlife hcalls => exact (hcalls.calls.mono (by decide)).congr rfl rfl
  | wired i r u hlife hquiet hinit hwire hcalls => exact hcalls.congr rfl rfl
  | displayed i d u hlife hi hwire hcalls => exact hcalls.congr rfl rfl
  | contrasted v u hlife hwire hcalls => exact hcalls.congr rfl rfl

/-- R18, R31: a call is refused, or hands back one result and leaves the mark alone. -/
theorem refused_or_returned (h : Effect s i t) :
    (∃ why, t = s.refuse why) ∨ (t.refused = s.refused ∧ ∃ res, t.ends = s.ends ++ [.returned res]) := by
  have of_onlyWire {u : State} (k : OnlyWire s u) (r : Result) :
      u.refused = s.refused ∧ ∃ res, u.ends ++ [.returned r] = s.ends ++ [.returned res] :=
    ⟨k.refused, r, by rw [k.ends]⟩
  cases h with
  | refused i why hquiet => exact .inl ⟨why, rfl⟩
  | answered i r => exact .inr ⟨rfl, r, rfl⟩
  | initFailed cfg u hlife hcalls => exact .inr (of_onlyWire hcalls.onlyWire _)
  | initialized cfg b g u hlife hcalls => exact .inr (of_onlyWire hcalls.onlyWire _)
  | wired i r u hlife hquiet hinit hwire hcalls => exact .inr (of_onlyWire hwire r)
  | displayed i d u hlife hi hwire hcalls => exact .inr (of_onlyWire hwire _)
  | contrasted v u hlife hwire hcalls => exact .inr (of_onlyWire hwire _)

end Effect
end Sys2Proof.Machine
end

section
/-! PROOFS. One step: what it finds to do (R21, R57, log 7, log 14), and the effect of a step that answers next. -/
namespace Sys2Proof.Machine

theorem fetch_of_call {s : State} {r : Request} {rest : List Request} (hbench : s.bench = none)
    (hinbox : s.inbox = r :: rest) (halone : r.overlaps = false) :
    fetch s = .ofDecoded (decode s.params (.call r.call)) := by
  simp [fetch, hbench, hinbox, halone]

theorem fetch_of_bench {s : State} {b : BenchWord} (hbench : s.bench = some b) :
    fetch s = .ofDecoded (decode s.params (.wire b.level b.bytes)) := by
  simp [fetch, hbench]

theorem fetch_of_nothing {s : State} (hbench : s.bench = none) (hinbox : s.inbox = []) : fetch s = .idle := by
  simp [fetch, hbench, hinbox]

theorem step_of_decoded {s : State} {b : Body} {i : Instr} (hfetch : fetch s = .ofDecoded (decode s.params b))
    (hdecode : decode s.params b = .ok i) : step s = exec i s.taken := by
  simp [step, hfetch, hdecode, Fetched.ofDecoded]

theorem step_of_undecodable {s : State} {b : Body} {e : DecodeError}
    (hfetch : fetch s = .ofDecoded (decode s.params b)) (hdecode : decode s.params b = .error e) :
    step s = .refused (.undecodable e) := by
  simp [step, hfetch, hdecode, Fetched.ofDecoded]

theorem taken_of_call {s : State} {r : Request} {rest : List Request} (hbench : s.bench = none)
    (hinbox : s.inbox = r :: rest) : s.taken = { s with inbox := rest } := by
  cases s
  simp_all [State.taken]

theorem taken_of_bench {s : State} {b : BenchWord} (hbench : s.bench = some b) :
    s.taken = { s with bench := none } := by
  simp [State.taken, hbench]

/-- A step that answers next waits, refuses an overlapping call, or has the effect of an instruction that was decoded. -/
theorem step_effect {s t : State} (h : step s = .next t) :
    t = s ∨ t = s.taken.refuse .concurrentCall ∨ ∃ b i, decode s.params b = .ok i ∧ Effect s.taken i t := by
  obtain ⟨-, -, rfl⟩ | ⟨-, rfl⟩ | ⟨b, i, hdecode, hexec⟩ := step_ran h
  · exact .inl rfl
  · exact .inr (.inl rfl)
  · exact .inr (.inr ⟨b, i, hdecode, exec_effect hexec⟩)

theorem step_params {s t : State} (h : step s = .next t) : t.params = s.params := by
  obtain rfl | rfl | ⟨b, i, -, he⟩ := step_effect h
  · rfl
  · rfl
  · exact he.surroundings.1

end Sys2Proof.Machine

namespace Sys2Proof.Proofs
open Sys2Proof.Machine

/-- Settles O3: a call, or a word on the bench, is fetched, decoded and taken up. -/
theorem stepRunsDecodedInstruction : Obligations.StepRunsDecodedInstruction := by
  constructor
  · intro s r rest i hbench hinbox halone hdecode
    rw [step_of_decoded (fetch_of_call hbench hinbox halone) hdecode, taken_of_call hbench hinbox]
  · intro s b i hbench hdecode
    rw [step_of_decoded (fetch_of_bench hbench) hdecode, taken_of_bench hbench]

/-- Settles O4: nothing is fetched, or what is fetched does not decode. -/
theorem stepWithoutInstruction : Obligations.StepWithoutInstruction := by
  refine ⟨fun s hbench hinbox => ?_, fun s r rest e hbench hinbox halone => ?_, fun s b e hbench => ?_⟩
  · simp [step, fetch_of_nothing hbench hinbox]
  · exact step_of_undecodable (fetch_of_call hbench hinbox halone)
  · exact step_of_undecodable (fetch_of_bench hbench)

end Sys2Proof.Proofs
end

section
/-! PROOFS. The invariants of R35 hold at reset and are kept by every step. -/
namespace Sys2Proof.Machine

theorem inv_resetWith (p : Params) (o : Oracle) (calls : List Request) :
    ({ State.resetWith p o with inbox := calls } : State).Inv where
  uninit _ := by simp [State.resetWith]
  init h := by simp [State.resetWith] at h
  hardwired c h := by simp [State.resetWith] at h

@[simp] theorem inv_ret {r : Result} {s : State} : (s.ret r).Inv ↔ s.Inv :=
  ⟨fun ⟨hu, hi, hc⟩ => ⟨hu, hi, hc⟩, fun ⟨hu, hi, hc⟩ => ⟨hu, hi, hc⟩⟩

@[simp] theorem inv_refuse {why : RefuseReason} {s : State} : (s.refuse why).Inv ↔ s.Inv :=
  ⟨fun ⟨hu, hi, hc⟩ => ⟨hu, hi, hc⟩, fun ⟨hu, hi, hc⟩ => ⟨hu, hi, hc⟩⟩

@[simp] theorem inv_taken {s : State} : s.taken.Inv ↔ s.Inv :=
  ⟨fun ⟨hu, hi, hc⟩ => ⟨hu, hi, hc⟩, fun ⟨hu, hi, hc⟩ => ⟨hu, hi, hc⟩⟩

/-- Once the block is initialized, R35 speaks of the acquired fields only. -/
theorem State.Inv.of_keepsAcquired {s t : State} (hs : s.Inv) (hlife : s.life = .initialized)
    (hkeep : KeepsAcquired s t) (hparams : t.params = s.params) : t.Inv where
  uninit h := by simp [hkeep.life, hlife] at h
  init _ := by simpa [hkeep.bus, hkeep.gpio, hkeep.busCfg, hkeep.dcOut] using hs.init hlife
  hardwired := by simpa [hkeep.busCfg, hparams] using hs.hardwired

/-- Before that, calls of `initDevice` are the only ones allowed. -/
theorem State.Inv.of_setupCalls {n : Nat} {s t : State} (hs : s.Inv) (hlife : s.life = .uninitialized)
    (hcalls : SetupCalls n s t) : t.Inv where
  uninit _ := by
    obtain ⟨hbus, hgpio, hcfg, hout, hdc, hcontrast, hdisplay, htrace⟩ := hs.uninit hlife
    have hw := hcalls.onlyWire
    exact ⟨hw.bus.trans hbus, hw.gpio.trans hgpio, hw.busCfg.trans hcfg, hw.dcOut.trans hout, hcalls.dc.trans hdc,
      hw.contrast.trans hcontrast, hw.displayOn.trans hdisplay, hcalls.setup htrace⟩
  init h := by simp [hcalls.onlyWire.life, hlife] at h
  hardwired := by simpa [hcalls.onlyWire.busCfg, hcalls.onlyWire.params] using hs.hardwired

/-- R24: a successful `initDevice` establishes the invariants if it was given the configuration of the parameters. -/
theorem inv_acquire (b g : Handle) (s : State) : (s.acquire b g (busConfigOf s.params.inst)).Inv where
  uninit h := by simp at h
  init _ := by simp
  hardwired c h := by simpa [busConfigOf, eq_comm] using h

/-- Every effect keeps the invariants; of `initDevice` this holds with the configuration of the parameters (R12). -/
theorem Effect.keeps_inv {s t : State} {i : Instr} (h : Effect s i t) (hs : s.Inv)
    (hcfg : ∀ cfg, i = .initDevice cfg → cfg = s.params.inst) : t.Inv := by
  cases hlife : s.life with
  | initialized => exact hs.of_keepsAcquired hlife (h.keepsAcquired_of_initialized hlife) h.surroundings.1
  | uninitialized =>
    cases h with
    | refused i why hquiet => exact inv_refuse.2 hs
    | answered i r => exact inv_ret.2 hs
    | initFailed cfg u hlife hcalls => exact inv_ret.2 (hs.of_setupCalls hlife hcalls)
    | initialized cfg b g u hlife hcalls =>
      obtain rfl : cfg = u.params.inst := (hcfg cfg rfl).trans (by rw [hcalls.onlyWire.params])
      exact inv_ret.2 (inv_acquire b g u)
    | wired i r u hinit => simp [hlife] at hinit
    | displayed i d u hinit => simp [hlife] at hinit
    | contrasted v u hinit => simp [hlife] at hinit

theorem step_keeps_inv {s t : State} (hs : s.Inv) (h : step s = .next t) : t.Inv := by
  obtain rfl | rfl | ⟨b, i, hdecode, he⟩ := step_effect h
  · exact hs
  · exact inv_refuse.2 (inv_taken.2 hs)
  · refine he.keeps_inv (inv_taken.2 hs) ?_
    rintro cfg rfl
    exact decode_initDevice hdecode

/-- A rule that holds at reset and that every step keeps holds of every reachable state, whose parameters are `p`. -/
theorem reachable_induction {p : Params} {P : State → Prop}
    (hreset : ∀ o calls, P { State.resetWith p o with inbox := calls })
    (hstep : ∀ s t, s.params = p → P s → step s = .next t → P t) {s : State} (h : Reachable p s) :
    P s ∧ s.params = p := by
  induction h with
  | reset o calls => exact ⟨hreset o calls, rfl⟩
  | step s t _ h ih => exact ⟨hstep s t ih.2 ih.1 h, (step_params h).trans ih.2⟩

end Sys2Proof.Machine

namespace Sys2Proof.Proofs
open Sys2Proof.Machine

/-- Settles O36: only `initDevice` changes an uninitialized block, and an initialized one keeps what it acquired. -/
theorem stepKeepsInvariant : Obligations.StepKeepsInvariant := fun _ _ => step_keeps_inv

/-- Settles O2. -/
theorem resetMeetsInvariant : Obligations.ResetMeetsInvariant := inv_resetWith

/-- Settles O37, by induction on the run. -/
theorem reachableStatesMeetInvariant : Obligations.ReachableStatesMeetInvariant := fun p _ =>
  reachable_induction (inv_resetWith p) fun _ _ _ => step_keeps_inv

end Sys2Proof.Proofs
end

section
/-! PROOFS. The frame of steps and instructions: the trace (R30), the mark (R31), the lifecycle (R22) and the access
table (R33). -/
namespace Sys2Proof.Proofs
open Sys2Proof.Machine Sys2Proof.Spec

/-- Settles O38: nine calls are as many as any effect makes; a step without an instruction makes none. -/
theorem traceOnlyGrows : Obligations.TraceOnlyGrows := by
  intro s t h
  change MadeCalls 9 s t
  have htaken : MadeCalls 0 s s.taken := .of_eq rfl rfl
  obtain rfl | rfl | ⟨b, i, -, he⟩ := step_effect h
  · exact (MadeCalls.refl _).mono (by decide)
  · exact (htaken.congr rfl rfl).mono (by decide)
  · exact (htaken.trans he.madeCalls).mono (by decide)

/-- Settles O39: a call is refused or returns, and neither clears the mark. -/
theorem refusalMarkIsSticky : Obligations.RefusalMarkIsSticky := by
  constructor
  · intro s t hmark h
    obtain rfl | rfl | ⟨b, i, -, he⟩ := step_effect h
    · exact hmark
    · rfl
    · obtain ⟨why, rfl⟩ | ⟨hsame, -⟩ := he.refused_or_returned
      · rfl
      · exact hsame.trans hmark
  · exact fun i s t h => (exec_effect h).refused_or_returned

/-- Settles O40. -/
theorem onlyInitializeLeavesUninitialized : Obligations.OnlyInitializeLeavesUninitialized := fun _ _ _ h hlife =>
  (exec_effect h).keepsAcquired_or_initialized.resolve_left fun hkeep => hlife hkeep.life

/-- Settles O41. -/
theorem acquiredFieldsStay : Obligations.AcquiredFieldsStay := by
  intro s t hlife h
  have hkeep : KeepsAcquired s t := by
    obtain rfl | rfl | ⟨b, i, -, he⟩ := step_effect h
    · exact ⟨rfl, rfl, rfl, rfl, rfl⟩
    · exact (taken_keepsAcquired s).trans (refuse_keepsAcquired _ _)
    · exact (taken_keepsAcquired s).trans (he.keepsAcquired_of_initialized hlife)
  exact ⟨hkeep.life, hkeep.bus, hkeep.gpio, hkeep.busCfg, hkeep.dcOut⟩

/-- Settles O42: each clause is a frame rule of effects. -/
theorem fieldsWrittenByTheAccessTable : Obligations.FieldsWrittenByTheAccessTable := by
  intro i s t h
  have he : Effect s i t := exec_effect h
  refine ⟨fun hi => ?_, fun hi => ?_, fun hi => ?_, he.contrast, he.displayOn, he.surroundings⟩
  · obtain ⟨hlife, hbus, hgpio, hcfg, hout⟩ := he.keepsAcquired hi
    exact ⟨hlife, hbus, hgpio, hcfg, hout⟩
  · obtain hquiet | ⟨cfg, rfl⟩ := hi
    · obtain ⟨r, rfl⟩ := he.eq_ret_of_touchesNothing hquiet
      rfl
    · exact he.dc_of_initDevice
  · obtain ⟨r, rfl⟩ := he.eq_ret_of_touchesNothing hi
    exact ⟨rfl, rfl, rfl⟩

end Sys2Proof.Proofs
end

section
/-! PROOFS. The collaborator primitives (R46 to R49): the next state that an answer
determines, and that there is none only if the answer never comes (R190). -/
namespace Sys2Proof.Machine

theorem gpioConfigureOutput_eq (s : State) {c : Reply} (h : replyOf (s.oracle.answer 0) = some c) :
    gpioConfigureOutput s = some (c, s.called (.cfgOut c)) := by
  simp [gpioConfigureOutput, h]

theorem getBusHandle_eq (name : String) (s : State) {b : Option Handle}
    (h : lookupOf (s.oracle.answer 0) = some b) :
    getBusHandle name s = some (b, s.called (.getBus name b.isSome)) := by
  simp [getBusHandle, h]

theorem getGpioHandle_eq (name : String) (s : State) {g : Option Handle}
    (h : lookupOf (s.oracle.answer 0) = some g) :
    getGpioHandle name s = some (g, s.called (.getGpio name g.isSome)) := by
  simp [getGpioHandle, h]

theorem gpioConfigureOutput_eq_none {s : State} : gpioConfigureOutput s = none ↔ s.oracle.answer 0 = .never := by
  simp [gpioConfigureOutput, replyOf_eq_none]

theorem getBusHandle_eq_none {name : String} {s : State} :
    getBusHandle name s = none ↔ s.oracle.answer 0 = .never := by
  simp [getBusHandle, lookupOf_eq_none]

theorem getGpioHandle_eq_none {name : String} {s : State} :
    getGpioHandle name s = none ↔ s.oracle.answer 0 = .never := by
  simp [getGpioHandle, lookupOf_eq_none]

/-- R46: a failed `GpioSet` leaves the level unknown, whichever was asked for. -/
theorem dcAfter_eq (level : Level) (g : Reply) :
    dcAfter level g = if g = .ok then (if level = .low then .cmd else .data) else .unknown := by
  cases g <;> cases level <;> rfl

end Sys2Proof.Machine

namespace Sys2Proof.Proofs
open Sys2Proof.Machine

/-- Settles O13: each clause is the equation of its primitive. -/
theorem collaboratorCallsRecordTheirAnswer : Obligations.CollaboratorCallsRecordTheirAnswer := by
  refine ⟨fun s level g h => ?_, fun s bytes x h => busTransfer_eq bytes s h, fun s c h => gpioConfigureOutput_eq s h,
    fun s name found h => ⟨getBusHandle_eq name s h, getGpioHandle_eq name s h⟩⟩
  rw [gpioSet_eq level s h, dcAfter_eq]
  rfl

end Sys2Proof.Proofs
end

section
/-! PROOFS. What a step takes up (R57): the parameters stay, the bench is emptied, the inbox is that of `State.taken`. -/
namespace Sys2Proof.Machine

theorem step_surroundings {s t : State} (h : step s = .next t) :
    t.params = s.params ∧ t.inbox = s.taken.inbox ∧ t.bench = none := by
  obtain ⟨hbench, hinbox, rfl⟩ | ⟨-, rfl⟩ | ⟨b, i, -, hexec⟩ := step_ran h
  · exact ⟨rfl, by simp [hbench, hinbox], hbench⟩
  · exact ⟨rfl, rfl, rfl⟩
  · exact (exec_effect hexec).surroundings

end Sys2Proof.Machine

namespace Sys2Proof.Proofs
open Sys2Proof.Machine

/-- Settles O6: the inbox of `State.taken` is the old one, or its tail, as a word stood on the bench or not. -/
theorem stepTakesOneCall : Obligations.StepTakesOneCall := by
  intro s t h
  obtain ⟨hparams, hinbox, hbench⟩ := step_surroundings h
  refine ⟨hparams, hbench, fun hnone => ?_, fun hsome => ?_⟩
  · simp [hinbox, hnone]
  · simp [hinbox, Option.isSome_iff_ne_none.2 hsome]

end Sys2Proof.Proofs
end

section
/-! PROOFS. The bits on the serial line (R11, R51): a word is eight bits and is determined by them in either order, so a
transfer is cut into its words every eight bits. -/
namespace Sys2Proof.Machine

@[simp] theorem length_wordBits (order : BitOrder) (b : Byte) : (wordBits order b).length = 8 := by
  cases order <;> simp [wordBits]

theorem wordBits_inj {order : BitOrder} {a b : Byte} (h : wordBits order a = wordBits order b) : a = b := by
  have hbits : (List.range 8).map a.getLsbD = (List.range 8).map b.getLsbD := by
    cases order with
    | lsbFirst => exact h
    | msbFirst => exact List.reverse_inj.1 h
  refine BitVec.eq_of_getLsbD_eq fun k hk => ?_
  exact List.map_inj_left.1 hbits k (List.mem_range.2 hk)

@[simp] theorem lineBits_cons (p : Params) (b : Byte) (bytes : List Byte) :
    lineBits p (b :: bytes) = wordBits p.bitOrder b ++ lineBits p bytes := rfl

@[simp] theorem length_lineBits (p : Params) (bytes : List Byte) : (lineBits p bytes).length = 8 * bytes.length := by
  induction bytes with
  | nil => rfl
  | cons b bytes ih => simp [ih]; omega

/-- The first eight bits are the first word, and the others the rest of the transfer. -/
theorem lineBits_inj {p : Params} {as bs : List Byte} (h : lineBits p as = lineBits p bs) : as = bs := by
  have hlen : 8 * as.length = 8 * bs.length := by simpa using congrArg List.length h
  induction as generalizing bs with
  | nil => exact (List.length_eq_zero_iff.1 (by simpa using hlen.symm)).symm
  | cons a as ih =>
    cases bs with
    | nil => simp at hlen
    | cons b bs =>
      obtain ⟨hword, hrest⟩ := List.append_inj h (by simp)
      rw [wordBits_inj hword, ih hrest (by simpa using hlen)]

end Sys2Proof.Machine

namespace Sys2Proof.Proofs
open Sys2Proof.Machine

/-- Settles O52: a transfer is its words one after another, each of eight bits that determine it. -/
theorem lineBitsDetermineTheBytes : Obligations.LineBitsDetermineTheBytes := fun p as _ =>
  ⟨length_lineBits p as, lineBits_inj⟩

end Sys2Proof.Proofs
end

section
/-! PROOFS. When an operation does not come back (R190): one of the collaborator calls it makes, of which there are three in
a command or a payload phase and nine in a `write`, is never answered. -/
namespace Sys2Proof.Machine

/-- One of the next `n` collaborator calls never returns. -/
def Hangs (n : Nat) (s : State) : Prop :=
  ∃ k, k < n ∧ s.oracle.answer k = .never

theorem Hangs.mono {m n : Nat} {s : State} (h : Hangs m s) (hmn : m ≤ n) : Hangs n s := by
  obtain ⟨k, hk, hnever⟩ := h
  exact ⟨k, by omega, hnever⟩

/-- The calls made so far only move the place of the one that hangs. -/
theorem MadeCalls.hangs {m n : Nat} {s t : State} (h : MadeCalls m s t) (ht : Hangs n t) : Hangs (m + n) s := by
  obtain ⟨evs, -, horacle, hlen⟩ := h
  obtain ⟨k, hk, hnever⟩ := ht
  exact ⟨evs.length + k, by omega, by simpa [horacle] using hnever⟩

theorem hangs_one {s : State} (h : s.oracle.answer 0 = .never) : Hangs 1 s :=
  ⟨0, by decide, h⟩

theorem gpioSet_madeCalls {level : Level} {s t : State} {g : Reply} (h : gpioSet level s = some (g, t)) :
    MadeCalls 1 s t := by
  obtain ⟨-, rfl⟩ := gpioSet_eq_some h
  exact ((MadeCalls.refl s).called _).drive _

theorem busTransfer_madeCalls {bytes : List Byte} {s t : State} {x : Reply} (h : busTransfer bytes s = some (x, t)) :
    MadeCalls 1 s t := by
  obtain ⟨-, rfl⟩ := busTransfer_eq_some h
  exact (MadeCalls.refl s).called _

theorem gpioSet_hangs {level : Level} {s : State} (h : gpioSet level s = none) : Hangs 1 s :=
  hangs_one (gpioSet_eq_none.1 h)

theorem busTransfer_hangs {bytes : List Byte} {s : State} (h : busTransfer bytes s = none) : Hangs 1 s :=
  hangs_one (busTransfer_eq_none.1 h)

theorem send_hangs {opc : Byte} {ps : List Byte} {s : State} (h : send opc ps s = none) : Hangs 3 s := by
  unfold send at h
  split at h
  · rename_i hlow
    exact (gpioSet_hangs hlow).mono (by decide)
  · rename_i g s1 hlow
    have hcalls := gpioSet_madeCalls hlow
    split at h
    · cases h
    · split at h
      · rename_i hopc
        exact (hcalls.hangs (busTransfer_hangs hopc)).mono (by decide)
      · cases h
      · rename_i s2 hopc
        split at h
        · cases h
        · exact (hcalls.trans (busTransfer_madeCalls hopc)).hangs (busTransfer_hangs h)

theorem sendData_hangs {bytes : List Byte} {s : State} (h : sendData bytes s = none) : Hangs 3 s := by
  unfold sendData at h
  split at h
  · rename_i hhigh
    exact (gpioSet_hangs hhigh).mono (by decide)
  · cases h
  · rename_i s1 hhigh
    have hcalls := gpioSet_madeCalls hhigh
    split at h
    · rename_i hpayload
      exact (hcalls.hangs (busTransfer_hangs hpayload)).mono (by decide)
    · cases h
    · rename_i s2 hpayload
      exact (hcalls.trans (busTransfer_madeCalls hpayload)).hangs (gpioSet_hangs h)

theorem writeRegion_hangs {w : Window} {buf : List Byte} {n : Nat} {s : State} (h : writeRegion w buf n s = none) :
    Hangs 9 s := by
  unfold writeRegion at h
  split at h
  · rename_i hrow
    exact (send_hangs hrow).mono (by decide)
  · rename_i r1 s1 hrow
    have hcalls := send_madeCalls hrow
    split at h
    · rename_i hcol
      exact (hcalls.hangs (send_hangs hcol)).mono (by decide)
    · rename_i r2 s2 hcol
      exact (hcalls.trans (send_madeCalls hcol)).hangs (sendData_hangs h)

theorem acquireAll_hangs {cfg : InstanceConfig} {s : State} (h : acquireAll cfg s = none) : Hangs 3 s := by
  unfold acquireAll at h
  split at h
  · rename_i hbus
    exact (hangs_one (getBusHandle_eq_none.1 hbus)).mono (by decide)
  · cases h
  · rename_i b s1 hbus
    obtain ⟨-, rfl⟩ := getBusHandle_eq_some hbus
    have hcalls := (MadeCalls.refl s).called (.getBus cfg.busName true)
    split at h
    · rename_i hgpio
      exact (hcalls.hangs (hangs_one (getGpioHandle_eq_none.1 hgpio))).mono (by decide)
    · cases h
    · rename_i g s2 hgpio
      obtain ⟨-, rfl⟩ := getGpioHandle_eq_some hgpio
      split at h
      · rename_i hpin
        exact (hcalls.called _).hangs (hangs_one (gpioConfigureOutput_eq_none.1 hpin))
      · cases h
      · cases h

/-! ### Instructions -/

/-- The two ways in which an operation ends: with a next state, or stuck in a call, which is among the next nine (R127,
R190). -/
inductive NextOrHung (s : State) : Host.Outcome State Fault Refusal → Prop where
  | next (t : State) : NextOrHung s (.next t)
  | hung (h : Hangs 9 s) : NextOrHung s (.fault .collaboratorNeverReturns)

theorem whenInitialized_nextOrHung {s : State} {go : Host.Outcome State Fault Refusal} (h : NextOrHung s go) :
    NextOrHung s (whenInitialized s go) := by
  cases hlife : s.life with
  | uninitialized => rw [whenInitialized_uninitialized hlife]; exact .next _
  | initialized => rwa [whenInitialized_initialized hlife]

theorem finish_nextOrHung {s : State} {o : Option (Reply × State)} (h : o = none → Hangs 9 s) :
    NextOrHung s (finish o) := by
  cases o with
  | none => exact .hung (h rfl)
  | some a => exact .next _

theorem gated_send_nextOrHung (opc : Byte) (ps : List Byte) (s : State) :
    NextOrHung s (whenInitialized s (finish (send opc ps s))) :=
  whenInitialized_nextOrHung (finish_nextOrHung fun h => (send_hangs h).mono (by decide))

theorem gated_record_nextOrHung (opc : Byte) (ps : List Byte) (f : State → State) (s : State) :
    NextOrHung s (whenInitialized s (finish ((send opc ps s).map (onOk f)))) :=
  whenInitialized_nextOrHung (finish_nextOrHung fun h => (send_hangs (Option.map_eq_none_iff.1 h)).mono (by decide))

theorem execInitialize_nextOrHung (cfg : InstanceConfig) (s : State) : NextOrHung s (execInitialize cfg s) := by
  unfold execInitialize
  split
  · exact .next _
  · split
    · rename_i h
      exact .hung ((acquireAll_hangs h).mono (by decide))
    · exact .next _

theorem execWrite_nextOrHung (x y : HalfWord) (r : WriteRegion) (s : State) : NextOrHung s (execWrite x y r s) := by
  refine whenInitialized_nextOrHung ?_
  split
  · exact .next _
  · split
    · exact .next _
    · split
      · exact finish_nextOrHung writeRegion_hangs
      · exact .next _

theorem exec_nextOrHung (i : Instr) (s : State) : NextOrHung s (exec i s) := by
  cases i with
  | colAddr cs ce => exact gated_send_nextOrHung _ _ s
  | rowAddr rs re => exact gated_send_nextOrHung _ _ s
  | remap ps => exact gated_send_nextOrHung _ _ s
  | displayOn => exact gated_send_nextOrHung _ _ s
  | displayOff => exact gated_send_nextOrHung _ _ s
  | contrast v => exact gated_send_nextOrHung _ _ s
  | data bs => exact whenInitialized_nextOrHung (finish_nextOrHung fun h => (sendData_hangs h).mono (by decide))
  | initDevice cfg => exact execInitialize_nextOrHung cfg s
  | unblank => exact gated_record_nextOrHung _ _ _ s
  | blank => exact gated_record_nextOrHung _ _ _ s
  | setContrast v => exact gated_record_nextOrHung _ _ _ s
  | write x y r => exact execWrite_nextOrHung x y r s
  | read args => exact .next _
  | getFramebuffer => exact .next _
  | setBrightness args => exact .next _
  | getCapabilities => exact .next _
  | setPixelFormat f => exact .next _
  | setOrientation args => exact .next _

end Sys2Proof.Machine

namespace Sys2Proof.Proofs
open Sys2Proof.Machine

/-- Settles O44: an outcome that is no next state is the fault of a call among the next nine. -/
theorem everyInstructionCompletes : Obligations.EveryInstructionCompletes := by
  intro i s hanswered
  have hend := exec_nextOrHung i s
  generalize exec i s = outcome at hend ⊢
  cases hend with
  | next t => exact ⟨t, rfl⟩
  | hung h =>
    obtain ⟨k, hk, hnever⟩ := h
    exact absurd hnever (hanswered k hk)

end Sys2Proof.Proofs
end

section
/-! PROOFS. The transfers that a run of collaborator calls appends to the trace, by the level and the bytes of each (R40,
R47). -/
namespace Sys2Proof.Machine

/-- The trace has grown, and of each transfer appended the level and the bytes meet `P`. -/
def Transfers (P : Dc → List Byte → Prop) (s t : State) : Prop :=
  ∃ evs, t.trace = s.trace ++ evs ∧ ∀ d b a, Event.xfer d b a ∈ evs → P d b

namespace Transfers
variable {P Q : Dc → List Byte → Prop} {s t u : State}

theorem of_eq (htrace : t.trace = s.trace) : Transfers P s t :=
  ⟨[], by simpa using htrace, by simp⟩

theorem refl (s : State) : Transfers P s s :=
  of_eq rfl

theorem trans (h : Transfers P s t) (k : Transfers P t u) : Transfers P s u := by
  obtain ⟨evs, htrace, hP⟩ := h
  obtain ⟨evs', htrace', hP'⟩ := k
  refine ⟨evs ++ evs', by simp [htrace, htrace'], fun d b a hmem => ?_⟩
  obtain hmem | hmem := List.mem_append.1 hmem
  · exact hP d b a hmem
  · exact hP' d b a hmem

theorem mono (h : Transfers P s t) (hPQ : ∀ d b, P d b → Q d b) : Transfers Q s t := by
  obtain ⟨evs, htrace, hP⟩ := h
  exact ⟨evs, htrace, fun d b a hmem => hPQ d b (hP d b a hmem)⟩

/-- An update that leaves the trace alone may follow. -/
theorem congr (h : Transfers P s t) (htrace : u.trace = t.trace) : Transfers P s u :=
  h.trans (of_eq htrace)

theorem called_xfer (h : Transfers P s t) {d : Dc} {b : List Byte} (hP : P d b) (a : Reply) :
    Transfers P s (t.called (.xfer d b a)) :=
  h.trans ⟨[.xfer d b a], rfl, fun d' b' a' hmem => by cases List.mem_singleton.1 hmem; exact hP⟩

/-- A call that is no transfer. -/
theorem called_other (h : Transfers P s t) {e : Event} (he : ∀ d b a, e ≠ .xfer d b a) : Transfers P s (t.called e) :=
  h.trans ⟨[e], rfl, fun d b a hmem => absurd (List.mem_singleton.1 hmem).symm (he d b a)⟩

/-- The events appended are determined by the two traces. -/
theorem of_mem (h : Transfers P s t) {evs : List Event} (htrace : t.trace = s.trace ++ evs) {d : Dc} {b : List Byte}
    {a : Reply} (hmem : Event.xfer d b a ∈ evs) : P d b := by
  obtain ⟨evs', htrace', hP⟩ := h
  obtain rfl : evs = evs' := List.append_cancel_left (htrace.symm.trans htrace')
  exact hP d b a hmem

end Transfers

theorem dcAfter_low_ne_data (g : Reply) : dcAfter .low g ≠ .data := by
  cases g <;> simp [dcAfter]

/-- The transfers of `send` (R81): the opcode, then the parameters if there are any, none in data mode (R83). -/
def IsCommand (opc : Byte) (ps : List Byte) (d : Dc) (b : List Byte) : Prop :=
  d ≠ .data ∧ (b = [opc] ∨ b = ps ∧ ps ≠ [])

theorem IsCommand.ne_nil {opc : Byte} {ps b : List Byte} {d : Dc} (h : IsCommand opc ps d b) : b ≠ [] := by
  obtain ⟨-, rfl | ⟨rfl, hps⟩⟩ := h
  · simp
  · exact hps

theorem send_transfers {opc : Byte} {ps : List Byte} {s t : State} {r : Reply} (h : send opc ps s = some (r, t)) :
    Transfers (IsCommand opc ps) s t := by
  have hlow (g : Reply) : Transfers (IsCommand opc ps) s ((s.called (.setDC .low g)).drive (dcAfter .low g)) :=
    ((Transfers.refl s).called_other (by simp)).congr rfl
  have hopc (g x : Reply) : Transfers (IsCommand opc ps) s
      (((s.called (.setDC .low g)).drive (dcAfter .low g)).called (.xfer (dcAfter .low g) [opc] x)) :=
    (hlow g).called_xfer ⟨dcAfter_low_ne_data g, .inl rfl⟩ x
  obtain ⟨g, -, ⟨-, -, -, rfl⟩ | ⟨-, x, -, ⟨-, -, rfl⟩ | ⟨-, -, -, rfl⟩ | ⟨-, hps, -, rfl⟩⟩⟩ := send_cases h
  · exact hlow g
  · exact hopc g x
  · exact hopc g x
  · exact (hopc g x).called_xfer ⟨dcAfter_low_ne_data g, .inr ⟨rfl, hps⟩⟩ r

theorem sendData_transfers {bytes : List Byte} {s t : State} {r : Reply} (h : sendData bytes s = some (r, t)) :
    Transfers (fun d b => d = .data ∧ b = bytes) s t := by
  have hhigh (up : Reply) (l : Dc) :
      Transfers (fun d b => d = .data ∧ b = bytes) s ((s.called (.setDC .high up)).drive l) :=
    ((Transfers.refl s).called_other (by simp)).congr rfl
  obtain ⟨-, -, rfl⟩ | ⟨-, -, -, rfl⟩ | ⟨-, -, -, rfl⟩ := sendData_cases h
  · exact hhigh _ _
  · exact (hhigh _ _).called_xfer ⟨rfl, rfl⟩ _
  · exact (((hhigh _ _).called_xfer ⟨rfl, rfl⟩ _).called_other (by simp)).congr rfl

/-- The transfers of a `write` (R127): of the two addressing commands, or of the payload. -/
def IsWrite (o : Opcodes) (w : Window) (buf : List Byte) (n : Nat) (d : Dc) (b : List Byte) : Prop :=
  IsCommand o.rowAddr (rowParams w) d b ∨ IsCommand o.colAddr (colParams w) d b ∨
    (d = .data ∧ ∃ drawn, b = memRead drawn buf n)

/-- R108: outside data mode a `write` sends one of the two opcodes or one of the two parameter pairs. -/
theorem IsWrite.command {o : Opcodes} {w : Window} {buf b : List Byte} {n : Nat} {d : Dc} (h : IsWrite o w buf n d b)
    (hd : d ≠ .data) : b = [o.rowAddr] ∨ b = rowParams w ∨ b = [o.colAddr] ∨ b = colParams w := by
  obtain ⟨-, hb | ⟨hb, -⟩⟩ | ⟨-, hb | ⟨hb, -⟩⟩ | ⟨hdata, -⟩ := h
  · exact .inl hb
  · exact .inr (.inl hb)
  · exact .inr (.inr (.inl hb))
  · exact .inr (.inr (.inr hb))
  · exact absurd hdata hd

theorem writeRegion_transfers {w : Window} {buf : List Byte} {n : Nat} {s t : State} {r : Reply}
    (h : writeRegion w buf n s = some (r, t)) : Transfers (IsWrite s.params.opcodes w buf n) s t := by
  obtain ⟨r1, s1, r2, s2, hrow, hcol, hdata⟩ := writeRegion_cases h
  rw [(send_onlyWire hrow).params] at hcol
  refine .trans (.trans ((send_transfers hrow).mono fun d b hb => ?_) ((send_transfers hcol).mono fun d b hb => ?_))
    ((sendData_transfers hdata).mono fun d b hb => ?_)
  · exact .inl hb
  · exact .inr (.inl hb)
  · exact .inr (.inr ⟨hb.1, _, hb.2⟩)

/-- The calls of `initDevice` are no transfers (R121). -/
theorem acquireAll_transfers {P : Dc → List Byte → Prop} {cfg : InstanceConfig} {s t : State} {r : Result}
    (h : acquireAll cfg s = some (r, t)) : Transfers P s t := by
  have hbus (found : Bool) : Transfers P s (s.called (.getBus cfg.busName found)) :=
    (Transfers.refl s).called_other (by simp)
  have hgpio (found : Bool) :
      Transfers P s ((s.called (.getBus cfg.busName true)).called (.getGpio cfg.dcGpioName found)) :=
    (hbus true).called_other (by simp)
  obtain ⟨-, -, rfl⟩ | ⟨b, -, ⟨-, -, rfl⟩ | ⟨g, -, ⟨-, -, rfl⟩ | ⟨-, -, rfl⟩⟩⟩ := acquireAll_cases h
  · exact hbus _
  · exact hgpio _
  · exact (hgpio _).called_other (by simp)
  · exact ((hgpio _).called_other (by simp)).congr rfl

theorem recordedBy_trace {p : Params} {i : Instr} {opc : Byte} {ps : List Byte} {f : State → State}
    (h : recordedBy p i = some (opc, ps, f)) (s : State) : (f s).trace = s.trace := by
  obtain ⟨-, d, rfl⟩ | ⟨v, -, rfl⟩ := recordedBy_cases h <;> rfl

/-- R126, R127: a refused `write` makes no transfer, so every `write` makes those of an accepted one at most. -/
theorem write_transfers {s t : State} {x y : HalfWord} {r : WriteRegion} {buf : List Byte} (hbuf : r.buf = some buf)
    (h : exec (.write x y r) s = .next t) :
    Transfers (IsWrite s.params.opcodes (computeWindow s.params x y r.pitch) buf r.bufSize) s t := by
  cases exec_ran h with
  | refused i why hi => exact .of_eq rfl
  | answered i res hi => exact .of_eq rfl
  | sent i opc ps res u hl hi hsend => cases hi
  | recorded i opc ps f u hl hi hsend => cases hi
  | unrecorded i opc ps f u hl hi hsend => cases hi
  | written x y reg buf' res u hl hb hn hw hwrite =>
    obtain rfl : buf' = buf := Option.some.inj (hb.symm.trans hbuf)
    exact (writeRegion_transfers hwrite).congr rfl

/-- R53: every transfer of a well-formed instruction holds a byte. A payload does, by R91 or since a `write` of no bytes is
refused (R126); a command does by its opcode, and its parameters are sent only if there are any (R84). -/
theorem Ran.transfers_ne_nil {s t : State} {i : Instr} (h : Ran s i t) (hwf : wellFormed s.params i = true) :
    Transfers (fun _ b => b ≠ []) s t := by
  cases h with
  | refused i why h => exact .of_eq rfl
  | answered i r h => exact .of_eq rfl
  | acquired cfg r u hl h => exact (acquireAll_transfers h).congr rfl
  | sent i opc ps r u hl hi h => exact ((send_transfers h).mono fun d b => IsCommand.ne_nil).congr rfl
  | recorded i opc ps f u hl hi h =>
    exact ((send_transfers h).mono fun d b => IsCommand.ne_nil).congr (recordedBy_trace hi u)
  | unrecorded i opc ps f u hl hi h => exact ((send_transfers h).mono fun d b => IsCommand.ne_nil).congr rfl
  | data bs r u hl h =>
    have hbs : bs ≠ [] := by simpa [wellFormed] using hwf
    exact ((sendData_transfers h).mono fun d b hb => hb.2 ▸ hbs).congr rfl
  | written x y reg buf r u hl hb hn hw h =>
    refine ((writeRegion_transfers h).mono fun d b hb => ?_).congr rfl
    obtain hrow | hcol | ⟨-, drawn, rfl⟩ := hb
    · exact hrow.ne_nil
    · exact hcol.ne_nil
    · exact List.ne_nil_of_length_pos (by rw [length_memRead]; omega)

end Sys2Proof.Machine

namespace Sys2Proof.Proofs
open Sys2Proof.Machine

/-- Settles O47: the events appended are those of the way in which the instruction ran. -/
theorem transfersAreNeverEmpty : Obligations.TransfersAreNeverEmpty := fun _ _ _ _ hwf h htrace _ _ _ =>
  ((exec_ran h).transfers_ne_nil hwf).of_mem htrace

end Sys2Proof.Proofs
end

section
/-! PROOFS. The window of an accepted `write` is sent as it is (R68): its values fit a byte, since it lies inside a panel of
512 by 256 pixels at most (R8, R108). -/
namespace Sys2Proof.Machine

theorem toNat_windowByte {v : Int} (hlow : 0 ≤ v) (hhigh : v < 256) : ((windowByte v).toNat : Int) = v := by
  simp only [windowByte, BitVec.toNat_ofInt]
  omega

/-- The four bytes of a window in range are its four values. -/
theorem toNat_windowByte_of_inRange {p : Params} {w : Window} (hp : p.Valid) (hw : inRange p w) :
    ((windowByte w.colStart).toNat : Int) = w.colStart ∧ ((windowByte w.colEnd).toNat : Int) = w.colEnd ∧
      ((windowByte w.rowStart).toNat : Int) = w.rowStart ∧ ((windowByte w.rowEnd).toNat : Int) = w.rowEnd := by
  obtain ⟨-, -, hwidth, hpos, hheight, -⟩ := hp
  obtain ⟨hcs, hcs', hce, hce', hrs, hrs', hre⟩ := hw
  simp only [lastCol, lastRow] at hcs' hce' hrs' hre
  refine ⟨toNat_windowByte hcs ?_, toNat_windowByte hce ?_, toNat_windowByte hrs ?_, toNat_windowByte ?_ ?_⟩
  all_goals omega

/-- R108: the bytes of a window in range are inside the panel, and the last one is its bottom row. -/
theorem windowBytes_inside_panel {p : Params} {w : Window} (hp : p.Valid) (hw : inRange p w) :
    (windowByte w.colStart).toNat < p.width / 2 ∧ (windowByte w.colEnd).toNat < p.width / 2 ∧
      (windowByte w.rowStart).toNat < p.height ∧ (windowByte w.rowEnd).toNat = p.height - 1 := by
  obtain ⟨hcs, hce, hrs, hre⟩ := toNat_windowByte_of_inRange hp hw
  obtain ⟨-, hcs', -, hce', -, hrs', hre'⟩ := hw
  simp only [lastCol, lastRow] at hcs' hce' hrs' hre'
  omega

end Sys2Proof.Machine

namespace Sys2Proof.Proofs
open Sys2Proof.Machine Sys2Proof.Spec

/-- Settles O35: the window is in range, and its bytes are its values. -/
theorem windowSentLiesInsideThePanel : Obligations.WindowSentLiesInsideThePanel := by
  intro s t x y r buf evs hp haccepted h htrace
  obtain ⟨-, hbuf, -, hrange⟩ := haccepted
  obtain ⟨hcs, hce, hrs, -⟩ := toNat_windowByte_of_inRange hp hrange
  obtain ⟨hcol, hend, hrow, hlast⟩ := windowBytes_inside_panel hp hrange
  exact ⟨_, _, _, _, Int.ofNat_inj.1 hcs, hce, Int.ofNat_inj.1 hrs, hlast, hcol, hend, hrow, fun d b a hmem =>
    ((write_transfers hbuf h).of_mem htrace hmem).command⟩

end Sys2Proof.Proofs
end

section
/-! PROOFS. The decoder of command bytes, characterised by the encoding (R60, R69, R70): a command is an opcode and as many
parameters as belong to it, and a stream decodes to a list of commands if and only if it is their bytes joined. -/
namespace Sys2Proof.Machine
open Sys2Proof.Spec

/-! ### Opcodes -/

theorem eq_value_of_opcodeOf {o : Opcodes} {b : Byte} {c : Opcode} (h : opcodeOf o b = some c) : b = c.value o := by
  unfold opcodeOf at h
  split_ifs at h with h₁ h₂ h₃ h₄ h₅ h₆
  all_goals cases h
  all_goals assumption

/-- R71: distinct opcodes are told apart. -/
theorem opcodeOf_value {o : Opcodes} (hdistinct : o.all.Nodup) (c : Opcode) : opcodeOf o (c.value o) = some c := by
  simp only [Opcodes.all, List.nodup_cons, List.mem_cons, List.not_mem_nil, or_false, not_or] at hdistinct
  cases c <;> simp [opcodeOf, Opcode.value, hdistinct, eq_comm]

theorem opcodeOf_eq_none {o : Opcodes} {b : Byte} (h : b ∉ o.all) : opcodeOf o b = none := by
  simp only [Opcodes.all, List.mem_cons, List.not_mem_nil, or_false, not_or] at h
  simp [opcodeOf, h]

/-! ### One command -/

/-- The opcode and the parameters of a wire command, the opcode by name: `wireParts` before a value is given to it. -/
def commandParts : Instr → Option (Opcode × List Byte)
  | .colAddr cs ce => some (.colAddr, [cs, ce])
  | .rowAddr rs re => some (.rowAddr, [rs, re])
  | .remap ps => some (.remap, ps)
  | .displayOn => some (.displayOn, [])
  | .displayOff => some (.displayOff, [])
  | .contrast v => some (.contrast, [v])
  | _ => none

theorem wireParts_eq_map (p : Params) (i : Instr) :
    wireParts p i = (commandParts i).map fun c => (c.1.value p.opcodes, c.2) := by
  cases i <;> rfl

/-- R10: of a wire command, well-formed means that it has as many parameters as belong to its opcode. -/
theorem wellFormed_iff_length {p : Params} {i : Instr} {o : Opcode} {ps : List Byte}
    (h : commandParts i = some (o, ps)) : wellFormed p i = true ↔ ps.length = nparam p o := by
  cases i <;> cases h
  case remap => simp [wellFormed, nparam]
  all_goals exact iff_of_true rfl rfl

/-- A well-formed command of the wire. -/
def IsWireCommand (p : Params) (i : Instr) : Prop :=
  (wireParts p i).isSome = true ∧ wellFormed p i = true

theorem IsWireCommand.parts {p : Params} {i : Instr} (h : IsWireCommand p i) :
    ∃ o ps, commandParts i = some (o, ps) ∧ ps.length = nparam p o ∧
      commandBytes p i = o.value p.opcodes :: ps := by
  obtain ⟨hsome, hwf⟩ := h
  rw [wireParts_eq_map, Option.isSome_map] at hsome
  obtain ⟨⟨o, ps⟩, hc⟩ := Option.isSome_iff_exists.1 hsome
  exact ⟨o, ps, hc, (wellFormed_iff_length hc).1 hwf, by simp [commandBytes, wireParts_eq_map, hc]⟩

theorem takeCommand_append {p : Params} {i : Instr} {o : Opcode} {ps : List Byte} (h : commandParts i = some (o, ps))
    (hlen : ps.length = nparam p o) (rest : List Byte) : takeCommand p o (ps ++ rest) = .ok (i, rest) := by
  cases i <;> cases h
  case remap =>
    simp only [nparam] at hlen
    simp [takeCommand, ← hlen]
  all_goals rfl

theorem takeCommand_eq_ok {p : Params} {o : Opcode} {bs rest : List Byte} {i : Instr}
    (h : takeCommand p o bs = .ok (i, rest)) : ∃ ps, commandParts i = some (o, ps) ∧ bs = ps ++ rest := by
  unfold takeCommand at h
  split at h
  case h_5 =>
    split at h
    · cases h
    · cases h
      exact ⟨_, rfl, (List.take_append_drop _ _).symm⟩
  all_goals cases h
  all_goals exact ⟨_, rfl, rfl⟩

/-- R70 `TruncatedCommand`. -/
theorem takeCommand_of_length_lt {p : Params} {o : Opcode} {bs : List Byte} (h : bs.length < nparam p o) :
    takeCommand p o bs = .error .truncatedCommand := by
  unfold takeCommand
  split
  case h_5 => exact if_pos h
  all_goals simp [nparam] at h ⊢

theorem decodeCommand_value_cons {p : Params} (hp : p.Valid) (o : Opcode) (bs : List Byte) :
    decodeCommand p (o.value p.opcodes :: bs) = takeCommand p o bs := by
  obtain ⟨-, -, -, -, -, hdistinct⟩ := hp
  simp [decodeCommand, opcodeOf_value hdistinct]

/-- R69: a command ends where its parameters do, whatever comes after it. -/
theorem decodeCommand_append {p : Params} (hp : p.Valid) {i : Instr} (hi : IsWireCommand p i) (rest : List Byte) :
    decodeCommand p (commandBytes p i ++ rest) = .ok (i, rest) := by
  obtain ⟨o, ps, hparts, hlen, hbytes⟩ := hi.parts
  rw [hbytes, List.cons_append, decodeCommand_value_cons hp, takeCommand_append hparts hlen]

theorem decodeCommand_eq_ok {p : Params} {bs rest : List Byte} {i : Instr} (h : decodeCommand p bs = .ok (i, rest)) :
    IsWireCommand p i ∧ bs = commandBytes p i ++ rest := by
  have hwf : wellFormed p i = true := decodeCommand_wellFormed h
  unfold decodeCommand at h
  split at h
  · cases h
  · split at h
    · cases h
    · rename_i ho
      obtain ⟨ps, hparts, rfl⟩ := takeCommand_eq_ok h
      obtain rfl := eq_value_of_opcodeOf ho
      exact ⟨⟨by simp [wireParts_eq_map, hparts], hwf⟩, by simp [commandBytes, wireParts_eq_map, hparts]⟩

/-! ### A stream of commands -/

@[simp] theorem decodeStreamFuel_nil (p : Params) (n : Nat) : decodeStreamFuel p n [] = .ok [] := by
  cases n <;> rfl

theorem decodeStreamFuel_cons {p : Params} {n : Nat} {bs rest : List Byte} {i : Instr}
    (h : decodeCommand p bs = .ok (i, rest)) :
    decodeStreamFuel p (n + 1) bs = (decodeStreamFuel p n rest).map (i :: ·) := by
  cases bs with
  | nil => simp [decodeCommand] at h
  | cons b bs =>
    simp only [decodeStreamFuel, h]
    cases decodeStreamFuel p n rest <;> rfl

theorem decodeStream_of_error {p : Params} {b : Byte} {bs : List Byte} {e : DecodeError}
    (h : decodeCommand p (b :: bs) = .error e) : decodeStream p (b :: bs) = .error e := by
  simp [decodeStream, decodeStreamFuel, h]

theorem decodeStreamFuel_flatMap {p : Params} (hp : p.Valid) {is : List Instr} (his : ∀ i ∈ is, IsWireCommand p i)
    {n : Nat} (hn : (is.flatMap (commandBytes p)).length ≤ n) :
    decodeStreamFuel p n (is.flatMap (commandBytes p)) = .ok is := by
  induction is generalizing n with
  | nil => simp
  | cons i is ih =>
    obtain ⟨hi, his⟩ := List.forall_mem_cons.1 his
    obtain ⟨o, ps, -, -, hbytes⟩ := hi.parts
    rw [List.flatMap_cons, List.length_append, hbytes, List.length_cons] at hn
    obtain ⟨n, rfl⟩ : ∃ m, n = m + 1 := ⟨n - 1, by omega⟩
    rw [List.flatMap_cons, decodeStreamFuel_cons (decodeCommand_append hp hi _), ih his (by omega)]
    rfl

theorem decodeStreamFuel_eq_ok {p : Params} {n : Nat} {bs : List Byte} {is : List Instr}
    (h : decodeStreamFuel p n bs = .ok is) :
    (∀ i ∈ is, IsWireCommand p i) ∧ bs = is.flatMap (commandBytes p) := by
  induction n generalizing bs is with
  | zero =>
    cases bs with
    | nil =>
      cases (decodeStreamFuel_nil p _).symm.trans h
      simp
    | cons b bs => simp [decodeStreamFuel] at h
  | succ n ih =>
    cases bs with
    | nil =>
      cases (decodeStreamFuel_nil p _).symm.trans h
      simp
    | cons b bs =>
      cases hc : decodeCommand p (b :: bs) with
      | error e => simp [decodeStreamFuel, hc] at h
      | ok c =>
        obtain ⟨i, rest⟩ := c
        rw [decodeStreamFuel_cons hc] at h
        cases hrest : decodeStreamFuel p n rest with
        | error e => simp [hrest, Except.map] at h
        | ok js =>
          simp only [hrest, Except.map, Except.ok.injEq] at h
          obtain ⟨hi, hbytes⟩ := decodeCommand_eq_ok hc
          obtain ⟨hjs, rfl⟩ := ih hrest
          subst h
          exact ⟨List.forall_mem_cons.2 ⟨hi, hjs⟩, hbytes⟩

/-- R70: the stream decoder is the inverse of joining the bytes of commands. -/
theorem decodeStream_eq_ok_iff {p : Params} (hp : p.Valid) {bs : List Byte} {is : List Instr} :
    decodeStream p bs = .ok is ↔ (∀ i ∈ is, IsWireCommand p i) ∧ bs = is.flatMap (commandBytes p) :=
  ⟨decodeStreamFuel_eq_ok, fun ⟨his, hbs⟩ => by subst hbs; exact decodeStreamFuel_flatMap hp his (Nat.le_refl _)⟩

theorem decodeStream_append {p : Params} (hp : p.Valid) {as bs : List Byte} {is js : List Instr}
    (has : decodeStream p as = .ok is) (hbs : decodeStream p bs = .ok js) :
    decodeStream p (as ++ bs) = .ok (is ++ js) := by
  rw [decodeStream_eq_ok_iff hp] at has hbs ⊢
  obtain ⟨his, rfl⟩ := has
  obtain ⟨hjs, rfl⟩ := hbs
  exact ⟨List.forall_mem_append.2 ⟨his, hjs⟩, List.flatMap_append.symm⟩

theorem decodeStream_commandBytes {p : Params} (hp : p.Valid) {i : Instr} (hi : IsWireCommand p i) :
    decodeStream p (commandBytes p i) = .ok [i] :=
  (decodeStream_eq_ok_iff hp).2 ⟨by simpa using hi, by simp⟩

end Sys2Proof.Machine

namespace Sys2Proof.Proofs
open Sys2Proof.Machine Sys2Proof.Spec

/-- Settles O10: the joined bytes are one side of `decodeStream_eq_ok_iff`. -/
theorem streamOfCommandsDecodes : Obligations.StreamOfCommandsDecodes := fun _ _ hp his =>
  (decodeStream_eq_ok_iff hp).2 ⟨his, rfl⟩

/-- Settles O11: a foreign byte names no opcode, and a beginning of a command is its opcode and too few parameters. -/
theorem streamDecoderRefuses : Obligations.StreamDecoderRefuses := by
  refine ⟨fun p b bs hb => decodeStream_of_error (by simp [decodeCommand, opcodeOf_eq_none hb]), ?_⟩
  intro p i n hp hsome hwf hpos hlt
  obtain ⟨o, ps, -, hlen, hbytes⟩ := IsWireCommand.parts ⟨hsome, hwf⟩
  obtain ⟨n, rfl⟩ : ∃ m, n = m + 1 := ⟨n - 1, by omega⟩
  rw [hbytes, List.length_cons] at hlt
  rw [hbytes, List.take_succ_cons]
  refine decodeStream_of_error ?_
  rw [decodeCommand_value_cons hp, takeCommand_of_length_lt]
  rw [List.length_take]
  omega

end Sys2Proof.Proofs
end

section
/-! PROOFS. The arguments of a host call (R73, R74): each number and each region is read from the argument written for it,
and from no other. -/
namespace Sys2Proof

@[simp] theorem byteArg_toNat (v : Byte) : byteArg v.toNat = some v := by
  simp [byteArg, v.isLt]

@[simp] theorem halfArg_toNat (v : HalfWord) : halfArg v.toNat = some v := by
  simp [halfArg, v.isLt]

@[simp] theorem bufArg_bufToArg (buf : Option (List Byte)) : bufArg (bufToArg buf) = some buf := by
  cases buf <;> rfl

@[simp] theorem pitchArg_pitchToArg (pitch : Option HalfWord) : pitchArg (pitchToArg pitch) = some pitch := by
  cases pitch <;> simp [pitchToArg, pitchArg]

theorem toNat_of_byteArg {n : Nat} {v : Byte} (h : byteArg n = some v) : v.toNat = n := by
  unfold byteArg at h
  split at h
  · rename_i hn
    obtain rfl := Option.some.inj h
    exact (BitVec.toNat_ofNat _ _).trans (Nat.mod_eq_of_lt hn)
  · cases h

theorem toNat_of_halfArg {n : Nat} {v : HalfWord} (h : halfArg n = some v) : v.toNat = n := by
  unfold halfArg at h
  split at h
  · rename_i hn
    obtain rfl := Option.some.inj h
    exact (BitVec.toNat_ofNat _ _).trans (Nat.mod_eq_of_lt hn)
  · cases h

theorem bufToArg_of_bufArg {a : Arg} {buf : Option (List Byte)} (h : bufArg a = some buf) : bufToArg buf = a := by
  cases a <;> cases h <;> rfl

theorem pitchToArg_of_pitchArg {a : Arg} {pitch : Option HalfWord} (h : pitchArg a = some pitch) :
    pitchToArg pitch = a := by
  cases a <;> simp only [pitchArg, Option.map_eq_some_iff, Option.some.injEq, reduceCtorEq] at h
  case num n =>
    obtain ⟨v, hv, rfl⟩ := h
    exact congrArg Arg.num (toNat_of_halfArg hv)
  case absent =>
    subst h
    rfl

/-- The arguments of a decoded `write` are those of its encoding. -/
theorem encode_of_decodeWrite {p : Params} {x y size : Nat} {buf pitch : Arg} {i : Instr}
    (h : decodeWrite x y buf size pitch = some i) :
    encode p i = .call { op := "write", args := [.num x, .num y, buf, .num size, pitch] } := by
  unfold decodeWrite at h
  split at h
  · rename_i hx hy hbuf hpitch
    obtain rfl := Option.some.inj h
    simp [encode, toNat_of_halfArg hx, toNat_of_halfArg hy, bufToArg_of_bufArg hbuf, pitchToArg_of_pitchArg hpitch]
  · cases h

end Sys2Proof
end

section
/-! PROOFS. Decoding and encoding are inverse to one another (R60 to R74): for command bytes by the rules of one command, for
host calls by those of the arguments. -/
namespace Sys2Proof.Machine
open Sys2Proof.Spec

/-- R60: a command is encoded as its bytes in command mode. -/
theorem encode_eq_commandBytes {p : Params} {i : Instr} (h : (wireParts p i).isSome = true) :
    encode p i = .wire .low (commandBytes p i) := by
  cases i <;> simp [wireParts] at h <;> rfl

theorem decode_encode_command {p : Params} (hp : p.Valid) {i : Instr} (hi : IsWireCommand p i) :
    decode p (encode p i) = .ok i := by
  have hone := decodeCommand_append hp hi []
  rw [List.append_nil] at hone
  simp [encode_eq_commandBytes hi.1, decode, hone]

theorem decode_encode {p : Params} (hp : p.Valid) {i : Instr} (hwf : wellFormed p i = true) :
    decode p (encode p i) = .ok i := by
  cases i with
  | colAddr cs ce => exact decode_encode_command hp ⟨rfl, hwf⟩
  | rowAddr rs re => exact decode_encode_command hp ⟨rfl, hwf⟩
  | remap ps => exact decode_encode_command hp ⟨rfl, hwf⟩
  | displayOn => exact decode_encode_command hp ⟨rfl, hwf⟩
  | displayOff => exact decode_encode_command hp ⟨rfl, hwf⟩
  | contrast v => exact decode_encode_command hp ⟨rfl, hwf⟩
  | data payload =>
    cases payload with
    | nil => simp [wellFormed] at hwf
    | cons b bs => rfl
  | initDevice cfg =>
    simp only [wellFormed, beq_iff_eq] at hwf
    simp [encode, decode, decodeCall, hwf]
  | unblank => rfl
  | blank => rfl
  | write x y r => simp [encode, decode, decodeCall, decodeWrite]
  | read args => rfl
  | getFramebuffer => rfl
  | setBrightness args => rfl
  | setContrast v => simp [encode, decode, decodeCall]
  | getCapabilities => rfl
  | setPixelFormat f => simp [encode, decode, decodeCall, hwf]
  | setOrientation args => rfl

theorem encode_of_decodeCall {p : Params} {c : Call} {i : Instr} (h : decodeCall p c = .ok i) :
    encode p i = .call c := by
  obtain ⟨op, args⟩ := c
  unfold decodeCall at h
  dsimp only at h
  split at h
  case h_1 =>
    split at h
    · cases h; rfl
    · cases h
  case h_4 =>
    split at h
    · rename_i hw
      cases h
      exact encode_of_decodeWrite hw
    · cases h
  case h_8 =>
    split at h
    · rename_i hv
      cases h
      simp [encode, toNat_of_byteArg hv]
    · cases h
  case h_10 =>
    split at h
    · cases h; rfl
    · cases h
  case h_12 => split at h <;> cases h
  all_goals cases h
  all_goals rfl

theorem encode_of_decode {p : Params} {b : Body} {i : Instr} (h : decode p b = .ok i) : encode p i = b := by
  unfold decode at h
  split at h
  · exact encode_of_decodeCall h
  · split at h
    · cases h
    · rename_i hc
      cases h
      obtain ⟨hi, rfl⟩ := decodeCommand_eq_ok hc
      rw [encode_eq_commandBytes hi.1, List.append_nil]
    · cases h
  · cases h
  · cases h
    rfl

end Sys2Proof.Machine

namespace Sys2Proof.Proofs
open Sys2Proof.Machine

/-- Settles O8: by the row of the instruction. -/
theorem decodeOfEncode : Obligations.DecodeOfEncode := fun _ _ hp hwf => decode_encode hp hwf

/-- Settles O9. -/
theorem encodeOfDecode : Obligations.EncodeOfDecode := fun _ _ _ h => ⟨encode_of_decode h, decode_wellFormed h⟩

/-- Settles O7, by running the decoder on each request. -/
theorem writtenOutBytesDecode : Obligations.WrittenOutBytesDecode := ⟨rfl, rfl, rfl, rfl, rfl, rfl⟩

/-- Settles O12, by running the parser on each line. -/
theorem textLinesParse : Obligations.TextLinesParse := by
  refine ⟨?_, ?_, ?_, ?_, ?_, ?_⟩
  all_goals decide

end Sys2Proof.Proofs
end

section
/-! PROOFS. The table of `send_data` (R91): the answers to the raise, the transfer and the lower determine the events, the
result and the level. -/
namespace Sys2Proof.Machine
open Sys2Proof.Spec

theorem sendData_of_answers {s : State} {bytes : List Byte} {up x down : Reply}
    (h : DataAnswers s.oracle 0 up x down) :
    sendData bytes s = some (dataReply up x down, { s with
      dc := dataDc up x down
      trace := s.trace ++ dataEvents bytes up x down
      oracle := s.oracle.advance (dataEvents bytes up x down).length }) := by
  obtain ⟨hup, hrest⟩ := h
  unfold sendData
  rw [gpioSet_eq .high s hup]
  cases up with
  | err => rfl
  | ok =>
    obtain ⟨hx, hdown⟩ := hrest rfl
    dsimp only
    rw [busTransfer_eq bytes _ (x := x) (by simpa using hx)]
    cases x with
    | err => simp [dataReply, dataDc, dataEvents, State.called, State.drive, dcAfter]
    | ok =>
      dsimp only
      rw [gpioSet_eq .low _ (g := down) (by simpa using hdown rfl)]
      cases down <;> simp [dataReply, dataDc, dataEvents, State.called, State.drive, dcAfter]

theorem ioResult_eq (r : Reply) : ioResult r = if r = .ok then .ok else .err .ioError := by
  cases r <;> rfl

end Sys2Proof.Machine

namespace Sys2Proof.Proofs
open Sys2Proof.Machine

/-- Settles O17: past the gate DATA is `send_data` of its payload. -/
theorem dataPhaseShortCircuits : Obligations.DataPhaseShortCircuits := by
  intro s payload up x down hlife hanswers
  change whenInitialized s (finish (sendData payload s)) = _
  rw [whenInitialized_initialized hlife, sendData_of_answers hanswers, ← ioResult_eq]
  rfl

end Sys2Proof.Proofs
end

section
/-! PROOFS. The traffic of an instruction: the events of its expansion (R76), row by row of the tables of R82 and R91. From
this one fact follow what the receiving side decodes (R70) and which opcodes are sent (R72). -/
namespace Sys2Proof.Machine
open Sys2Proof.Spec

/-! ### The events of the shared operations are rows of the tables -/

theorem send_trace {opc : Byte} {ps : List Byte} {s t : State} {r : Reply} (h : send opc ps s = some (r, t)) :
    ∃ g x q, t.trace = s.trace ++ sendEvents s.params.encDcChecked opc ps g x q := by
  have hlevel (g : Reply) : dcAfter .low g = if g = .ok then .cmd else .unknown := by simp [dcAfter_eq]
  obtain ⟨g, -, ⟨hc, rfl, -, rfl⟩ | ⟨hc, x, -, ⟨rfl, -, rfl⟩ | ⟨rfl, hps, -, rfl⟩ | ⟨rfl, hps, -, rfl⟩⟩⟩ := send_cases h
  · exact ⟨.err, .ok, .ok, by simp [sendEvents, hc]⟩
  · exact ⟨g, .err, .ok, by simp [sendEvents, hc, hlevel]⟩
  · exact ⟨g, .ok, .ok, by simp [sendEvents, hc, hlevel, hps]⟩
  · exact ⟨g, .ok, r, by simp [sendEvents, hc, hlevel, hps]⟩

theorem sendData_trace {bytes : List Byte} {s t : State} {r : Reply} (h : sendData bytes s = some (r, t)) :
    ∃ up x down, t.trace = s.trace ++ dataEvents bytes up x down := by
  obtain ⟨-, -, rfl⟩ | ⟨-, -, -, rfl⟩ | ⟨-, -, -, rfl⟩ := sendData_cases h
  · exact ⟨.err, .ok, .ok, by simp [dataEvents]⟩
  · exact ⟨.ok, .err, .ok, by simp [dataEvents]⟩
  · exact ⟨.ok, .ok, r, by simp [dataEvents]⟩

theorem acquireAll_trace {cfg : InstanceConfig} {s t : State} {r : Result} (h : acquireAll cfg s = some (r, t)) :
    ∃ b g c, t.trace = s.trace ++ initEvents cfg b g c := by
  obtain ⟨-, -, rfl⟩ | ⟨b, -, ⟨-, -, rfl⟩ | ⟨g, -, ⟨-, -, rfl⟩ | ⟨-, -, rfl⟩⟩⟩ := acquireAll_cases h
  · exact ⟨none, none, .ok, by simp [initEvents]⟩
  · exact ⟨some b, none, .ok, by simp [initEvents]⟩
  · exact ⟨some b, some g, .err, by simp [initEvents]⟩
  · exact ⟨some b, some g, .ok, by simp [initEvents]⟩

/-! ### Traffic -/

/-- The events of wire commands and payloads sent one after another, whatever was answered to each. -/
inductive Traffic (p : Params) : List Instr → List Event → Prop where
  | nil : Traffic p [] []
  /-- `initialize` puts nothing on the wire (R121). -/
  | setup (cfg : InstanceConfig) (b g : Option Handle) (c : Reply) : Traffic p [] (initEvents cfg b g c)
  | command {c : Instr} {opc : Byte} {ps : List Byte} (hc : IsWireCommand p c) (hparts : wireParts p c = some (opc, ps))
      (g x q : Reply) {is : List Instr} {es : List Event} (rest : Traffic p is es) :
      Traffic p (c :: is) (sendEvents p.encDcChecked opc ps g x q ++ es)
  | payload (bytes : List Byte) (up x down : Reply) : Traffic p [.data bytes] (dataEvents bytes up x down)

theorem Traffic.single {p : Params} {c : Instr} {opc : Byte} {ps : List Byte} (hwf : wellFormed p c = true)
    (hparts : wireParts p c = some (opc, ps)) (g x q : Reply) : Traffic p [c] (sendEvents p.encDcChecked opc ps g x q) := by
  simpa using Traffic.command ⟨by simp [hparts], hwf⟩ hparts g x q .nil

/-- `i'` is `i` with the bytes that were read (R16, R129) as the buffer of a `write`. -/
inductive ReadAs : Instr → Instr → Prop where
  | same (i : Instr) : ReadAs i i
  | read (x y : HalfWord) (r : WriteRegion) (buf : List Byte) (drawn : Nat) (hbuf : r.buf = some buf) :
      ReadAs (.write x y r) (.write x y { r with buf := some (memRead drawn buf r.bufSize) })

theorem ReadAs.isWire_eq {i i' : Instr} (h : ReadAs i i') : isWire i' = isWire i := by
  cases h <;> rfl

/-- R129: what is read of a buffer that holds `buf_size` bytes is what R76 puts into the expansion. -/
theorem ReadAs.expansion_eq {p : Params} {i i' : Instr} (h : ReadAs i i')
    (hfull : ∀ x y r buf, i = .write x y r → r.buf = some buf → r.bufSize ≤ buf.length) :
    expansion p i' = expansion p i := by
  cases h with
  | same => rfl
  | read x y r buf drawn hbuf =>
    rw [memRead_eq_take drawn (hfull x y r buf rfl hbuf)]
    simp [expansion, hbuf, List.take_take]

theorem wireParts_of_sentBy {p : Params} {i : Instr} {opc : Byte} {ps : List Byte} (h : sentBy p i = some (opc, ps)) :
    wireParts p i = some (opc, ps) ∧ expansion p i = [i] := by
  cases i <;> cases h <;> exact ⟨rfl, rfl⟩

/-- R76: unblank, blank and set_contrast are one command each. -/
theorem expansion_of_recordedBy {p : Params} {i : Instr} {opc : Byte} {ps : List Byte} {f : State → State}
    (h : recordedBy p i = some (opc, ps, f)) :
    ∃ c, expansion p i = [c] ∧ wireParts p c = some (opc, ps) ∧ wellFormed p c = true := by
  cases i <;> cases h <;> exact ⟨_, rfl, rfl, rfl⟩

theorem expansion_of_answerOf {p : Params} {i : Instr} {r : Result} (h : answerOf p i = some r) : expansion p i = [] := by
  cases i <;> cases h <;> rfl

theorem writeRegion_traffic {x y : HalfWord} {reg : WriteRegion} {buf : List Byte} {s t : State} {r : Reply}
    (hbuf : reg.buf = some buf)
    (h : writeRegion (computeWindow s.params x y reg.pitch) buf reg.bufSize s = some (r, t)) :
    ∃ i' evs, ReadAs (.write x y reg) i' ∧ t.trace = s.trace ++ evs ∧ Traffic s.params (expansion s.params i') evs := by
  obtain ⟨r1, s1, r2, s2, hrow, hcol, hdata⟩ := writeRegion_cases h
  have hparams : s1.params = s.params := (send_onlyWire hrow).params
  obtain ⟨g, a, q, hrow⟩ := send_trace hrow
  obtain ⟨g', a', q', hcol⟩ := send_trace hcol
  obtain ⟨up, b, down, hdata⟩ := sendData_trace hdata
  rw [hparams] at hcol
  refine ⟨_, _, .read x y reg buf s2.oracle.drawn hbuf,
    by rw [hdata, hcol, hrow, List.append_assoc, List.append_assoc], ?_⟩
  have hread : (memRead s2.oracle.drawn buf reg.bufSize).take reg.bufSize = memRead s2.oracle.drawn buf reg.bufSize :=
    List.take_of_length_le (by simp)
  simp only [expansion, Option.getD_some, hread]
  exact .command ⟨rfl, rfl⟩ rfl g a q (.command ⟨rfl, rfl⟩ rfl g' a' q' (.payload _ up b down))

/-- R76: an instruction that is not refused puts the traffic of its expansion on the wire. -/
theorem Ran.traffic {s t : State} {i : Instr} (h : Ran s i t) (hwf : wellFormed s.params i = true) :
    (∃ why, t = s.refuse why) ∨
      ∃ i' evs, ReadAs i i' ∧ t.trace = s.trace ++ evs ∧ Traffic s.params (expansion s.params i') evs := by
  cases h with
  | refused i why h => exact .inl ⟨why, rfl⟩
  | answered i r h => exact .inr ⟨i, [], .same i, by simp, expansion_of_answerOf h ▸ .nil⟩
  | acquired cfg r u hl h =>
    obtain ⟨b, g, c, htrace⟩ := acquireAll_trace h
    exact .inr ⟨_, _, .same _, htrace, .setup cfg b g c⟩
  | sent i opc ps r u hl hi h =>
    obtain ⟨hparts, hexp⟩ := wireParts_of_sentBy hi
    obtain ⟨g, x, q, htrace⟩ := send_trace h
    exact .inr ⟨i, _, .same i, htrace, hexp ▸ .single hwf hparts g x q⟩
  | recorded i opc ps f u hl hi h =>
    obtain ⟨c, hexp, hparts, hc⟩ := expansion_of_recordedBy hi
    obtain ⟨g, x, q, htrace⟩ := send_trace h
    exact .inr ⟨i, _, .same i, (recordedBy_trace hi u).trans htrace, hexp ▸ .single hc hparts g x q⟩
  | unrecorded i opc ps f u hl hi h =>
    obtain ⟨c, hexp, hparts, hc⟩ := expansion_of_recordedBy hi
    obtain ⟨g, x, q, htrace⟩ := send_trace h
    exact .inr ⟨i, _, .same i, htrace, hexp ▸ .single hc hparts g x q⟩
  | data bs r u hl h =>
    obtain ⟨up, x, down, htrace⟩ := sendData_trace h
    exact .inr ⟨_, _, .same _, htrace, .payload bs up x down⟩
  | written x y reg buf r u hl hb hn hw h =>
    obtain ⟨i', evs, hread, htrace, htraffic⟩ := writeRegion_traffic hb h
    exact .inr ⟨i', evs, hread, htrace, htraffic⟩

/-- The same of a step: what it appends to the trace is the traffic of some instructions. -/
theorem step_traffic {s t : State} (h : step s = .next t) :
    ∃ is evs, t.trace = s.trace ++ evs ∧ Traffic s.params is evs := by
  obtain ⟨-, -, rfl⟩ | ⟨-, rfl⟩ | ⟨b, i, hdecode, hexec⟩ := step_ran h
  · exact ⟨[], [], by simp, .nil⟩
  · exact ⟨[], [], by simp, .nil⟩
  · obtain ⟨why, rfl⟩ | ⟨i', evs, -, htrace, htraffic⟩ := (exec_ran hexec).traffic (decode_wellFormed hdecode)
    · exact ⟨[], [], by simp, .nil⟩
    · exact ⟨_, evs, htrace, htraffic⟩

end Sys2Proof.Machine
end

section
/-! PROOFS. What the receiving side decodes (R70, log 15): traces decoded one after another decode to the lists of both, and
traffic whose answers are all `Ok` to the commands and payloads it was made for. -/
namespace Sys2Proof.Machine
open Sys2Proof.Spec

/-! ### The trace decoder -/

@[simp] theorem wireProgramFrom_nil (p : Params) (cur : List Byte) : wireProgramFrom p cur [] = decodeStream p cur := rfl

@[simp] theorem wireProgramFrom_command (p : Params) (cur bytes : List Byte) (es : List Event) :
    wireProgramFrom p cur (.xfer .cmd bytes .ok :: es) = wireProgramFrom p (cur ++ bytes) es := rfl

@[simp] theorem wireProgramFrom_setDC (p : Params) (cur : List Byte) (l : Level) (a : Reply) (es : List Event) :
    wireProgramFrom p cur (.setDC l a :: es) = wireProgramFrom p cur es := rfl

/-- A payload ends the stream of command bytes before it. -/
theorem wireProgramFrom_data_eq_ok {p : Params} {cur bytes : List Byte} {es : List Event} {is : List Instr} :
    wireProgramFrom p cur (.xfer .data bytes .ok :: es) = .ok is ↔
      ∃ js ks, decodeStream p cur = .ok js ∧ wireProgramFrom p [] es = .ok ks ∧ is = js ++ .data bytes :: ks := by
  rw [wireProgramFrom]
  cases decodeStream p cur with
  | error e => simp
  | ok js =>
    cases wireProgramFrom p [] es with
    | error e => simp
    | ok ks => simp [eq_comm]

/-- Of the transfers, a trace that decodes holds those that were answered `Ok` at a known level. -/
theorem xfer_of_wireProgramFrom_eq_ok {p : Params} {cur bytes : List Byte} {d : Dc} {a : Reply} {es : List Event}
    {is : List Instr} (h : wireProgramFrom p cur (.xfer d bytes a :: es) = .ok is) : a = .ok ∧ (d = .cmd ∨ d = .data) := by
  cases d <;> cases a <;> simp [wireProgramFrom] at h ⊢

/-- Whole commands that were already on the wire decode first. -/
theorem wireProgramFrom_append_left {p : Params} (hp : p.Valid) {as cur : List Byte} {es : List Event}
    {is js : List Instr} (has : decodeStream p as = .ok is) (hes : wireProgramFrom p cur es = .ok js) :
    wireProgramFrom p (as ++ cur) es = .ok (is ++ js) := by
  induction es generalizing cur js with
  | nil => exact decodeStream_append hp has hes
  | cons e es ih =>
    cases e with
    | xfer d bytes a =>
      obtain ⟨rfl, rfl | rfl⟩ := xfer_of_wireProgramFrom_eq_ok hes
      · rw [wireProgramFrom_command, List.append_assoc]
        exact ih hes
      · obtain ⟨ks, ls, hcur, hrest, rfl⟩ := wireProgramFrom_data_eq_ok.1 hes
        exact wireProgramFrom_data_eq_ok.2 ⟨_, ls, decodeStream_append hp has hcur, hrest, by simp⟩
    | setDC l a => exact ih hes
    | cfgOut a => exact ih hes
    | getBus n f => exact ih hes
    | getGpio n f => exact ih hes

theorem wireProgramFrom_append {p : Params} (hp : p.Valid) {cur : List Byte} {as bs : List Event} {is js : List Instr}
    (has : wireProgramFrom p cur as = .ok is) (hbs : wireProgram p bs = .ok js) :
    wireProgramFrom p cur (as ++ bs) = .ok (is ++ js) := by
  induction as generalizing cur is with
  | nil => simpa using wireProgramFrom_append_left hp has hbs
  | cons e as ih =>
    cases e with
    | xfer d bytes a =>
      obtain ⟨rfl, rfl | rfl⟩ := xfer_of_wireProgramFrom_eq_ok has
      · exact ih has
      · obtain ⟨ks, ls, hcur, hrest, rfl⟩ := wireProgramFrom_data_eq_ok.1 has
        exact wireProgramFrom_data_eq_ok.2 ⟨ks, _, hcur, ih hrest, by simp⟩
    | setDC l a => exact ih has
    | cfgOut a => exact ih has
    | getBus n f => exact ih has
    | getGpio n f => exact ih has

theorem wireProgram_append {p : Params} (hp : p.Valid) {as bs : List Event} {is js : List Instr}
    (has : wireProgram p as = .ok is) (hbs : wireProgram p bs = .ok js) : wireProgram p (as ++ bs) = .ok (is ++ js) :=
  wireProgramFrom_append hp has hbs

/-! ### Traffic decodes -/

/-- The first row of R82: all answers `Ok`. -/
theorem sendEvents_of_isOk {checked : Bool} {opc : Byte} {ps : List Byte} {g x q : Reply}
    (h : ∀ e ∈ sendEvents checked opc ps g x q, e.isOk = true) :
    sendEvents checked opc ps g x q =
      .setDC .low .ok :: .xfer .cmd [opc] .ok :: if ps = [] then [] else [.xfer .cmd ps .ok] := by
  unfold sendEvents at h ⊢
  cases g with
  | err => split_ifs at h <;> simp [Event.isOk] at h
  | ok =>
    cases x with
    | err => simp [Event.isOk] at h
    | ok => by_cases hps : ps = [] <;> cases q <;> simp [hps, Event.isOk] at h ⊢

theorem wireProgram_sendEvents {p : Params} (hp : p.Valid) {c : Instr} (hc : IsWireCommand p c) {opc : Byte}
    {ps : List Byte} (hparts : wireParts p c = some (opc, ps)) {checked : Bool} {g x q : Reply}
    (h : ∀ e ∈ sendEvents checked opc ps g x q, e.isOk = true) :
    wireProgram p (sendEvents checked opc ps g x q) = .ok [c] := by
  have hone : decodeStream p (opc :: ps) = .ok [c] := by
    simpa [commandBytes, hparts] using decodeStream_commandBytes hp hc
  rw [sendEvents_of_isOk h]
  split_ifs with hps
  · simpa [wireProgram, hps] using hone
  · simpa [wireProgram] using hone

theorem wireProgram_dataEvents (p : Params) {bytes : List Byte} {up x down : Reply}
    (h : ∀ e ∈ dataEvents bytes up x down, e.isOk = true) :
    wireProgram p (dataEvents bytes up x down) = .ok [.data bytes] := by
  cases up with
  | err => simp [dataEvents, Event.isOk] at h
  | ok =>
    cases x with
    | err => simp [dataEvents, Event.isOk] at h
    | ok =>
      change wireProgramFrom p [] (.xfer .data bytes .ok :: [.setDC .low down]) = _
      exact wireProgramFrom_data_eq_ok.2 ⟨[], [], rfl, rfl, rfl⟩

theorem wireProgram_initEvents (p : Params) (cfg : InstanceConfig) (b g : Option Handle) (c : Reply) :
    wireProgram p (initEvents cfg b g c) = .ok [] := by
  cases b <;> cases g <;> rfl

theorem Traffic.wireProgram_eq {p : Params} (hp : p.Valid) {is : List Instr} {evs : List Event} (h : Traffic p is evs)
    (hok : ∀ e ∈ evs, e.isOk = true) : wireProgram p evs = .ok is := by
  induction h with
  | nil => rfl
  | setup cfg b g c => exact wireProgram_initEvents p cfg b g c
  | command hc hparts g x q rest ih =>
    obtain ⟨hsend, hrest⟩ := List.forall_mem_append.1 hok
    exact wireProgram_append hp (wireProgram_sendEvents hp hc hparts hsend) (ih hrest)
  | payload bytes up x down => exact wireProgram_dataEvents p hok

theorem wireOk_resetWith (p : Params) (o : Oracle) (calls : List Request) :
    ({ State.resetWith p o with inbox := calls } : State).WireOk := fun _ => ⟨[], rfl⟩

/-- What a step appends decodes by itself, and so decodes after a trace that does. -/
theorem step_keeps_wireOk {s t : State} (hp : s.params.Valid) (hs : s.WireOk) (h : step s = .next t) : t.WireOk := by
  intro hok
  obtain ⟨is, evs, htrace, htraffic⟩ := step_traffic h
  rw [htrace, List.forall_mem_append] at hok
  obtain ⟨hbefore, hevs⟩ := hok
  obtain ⟨js, hjs⟩ := hs hbefore
  rw [step_params h, htrace]
  exact ⟨js ++ is, wireProgram_append hp hjs (htraffic.wireProgram_eq hp hevs)⟩

/-- R72: REMAP is no part of a host operation. -/
theorem remap_not_mem_expansion {p : Params} {i : Instr} (hi : isWire i = false) (ps : List Byte) :
    Instr.remap ps ∉ expansion p i := by
  cases i <;> simp [isWire, expansion] at hi ⊢

end Sys2Proof.Machine

namespace Sys2Proof.Proofs
open Sys2Proof.Machine Sys2Proof.Spec

/-- Settles O49: what a step appends is traffic, which decodes by itself. -/
theorem stepKeepsTraceDecodable : Obligations.StepKeepsTraceDecodable := fun _ _ => step_keeps_wireOk

/-- Settles O50, by induction on the run. -/
theorem reachableTracesDecode : Obligations.ReachableTracesDecode := by
  intro p s hp hreach hok
  obtain ⟨hs, rfl⟩ := reachable_induction (wireOk_resetWith p)
    (fun s t hparams hs h => step_keeps_wireOk (hparams ▸ hp) hs h) hreach
  exact hs hok

/-- Settles O51: the events are the traffic of the expansion, since an instruction that returns was not refused. -/
theorem wireTrafficIsTheExpansion : Obligations.WireTrafficIsTheExpansion := by
  intro i s t evs hp hwf hfull h htrace hret hok
  refine ⟨?_, remap_not_mem_expansion⟩
  obtain ⟨why, rfl⟩ | ⟨i', evs', hread, htrace', htraffic⟩ := (exec_ran h).traffic hwf
  · simp at hret
  · obtain rfl : evs = evs' := List.append_cancel_left (htrace.symm.trans htrace')
    rw [← hread.expansion_eq hfull]
    exact htraffic.wireProgram_eq hp hok

end Sys2Proof.Proofs
end

section
/-! PROOFS. Which opcodes are sent (R72, R80): those of the commands in the expansion of a host operation, which are five. -/
namespace Sys2Proof.Machine
open Sys2Proof.Spec

/-- An opcode of two traces one after another is one of the first, or one of the second in its place. -/
theorem mem_opcodesSentFrom_append {lowered : Bool} {as bs : List Event} {b : Byte}
    (h : b ∈ opcodesSentFrom lowered (as ++ bs)) :
    b ∈ opcodesSentFrom lowered as ∨ ∃ lowered', b ∈ opcodesSentFrom lowered' bs := by
  induction as generalizing lowered with
  | nil => exact .inr ⟨lowered, h⟩
  | cons e as ih =>
    cases e with
    | xfer d bytes a =>
      obtain h | h := List.mem_append.1 h
      · exact .inl (List.mem_append_left _ h)
      · exact (ih h).imp_left (List.mem_append_right _)
    | setDC l a => exact ih h
    | cfgOut a => exact ih h
    | getBus n f => exact ih h
    | getGpio n f => exact ih h

/-- R81: `send` has its own opcode in opcode position, if it comes to the opcode transfer. -/
theorem opcodesSentFrom_sendEvents (lowered checked : Bool) (opc : Byte) (ps : List Byte) (g x q : Reply) :
    opcodesSentFrom lowered (sendEvents checked opc ps g x q) = if checked = true ∧ g = .err then [] else [opc] := by
  unfold sendEvents
  split_ifs <;> rfl

theorem opcodesSentFrom_dataEvents (lowered : Bool) (bytes : List Byte) (up x down : Reply) :
    opcodesSentFrom lowered (dataEvents bytes up x down) = [] := by
  cases up <;> cases x <;> rfl

theorem opcodesSentFrom_initEvents (lowered : Bool) (cfg : InstanceConfig) (b g : Option Handle) (c : Reply) :
    opcodesSentFrom lowered (initEvents cfg b g c) = [] := by
  cases b <;> cases g <;> rfl

theorem Traffic.opcode_of_command {p : Params} {is : List Instr} {evs : List Event} (h : Traffic p is evs) {b : Byte}
    {lowered : Bool} (hb : b ∈ opcodesSentFrom lowered evs) : ∃ c ∈ is, ∃ ps, wireParts p c = some (b, ps) := by
  induction h generalizing lowered with
  | nil => cases hb
  | setup cfg bus g c => simp [opcodesSentFrom_initEvents] at hb
  | @command c opc ps hc hparts g x q is es rest ih =>
    obtain hb | ⟨lowered', hb⟩ := mem_opcodesSentFrom_append hb
    · rw [opcodesSentFrom_sendEvents] at hb
      split_ifs at hb
      · cases hb
      · obtain rfl := List.mem_singleton.1 hb
        exact ⟨c, List.mem_cons_self, ps, hparts⟩
    · obtain ⟨c', hc', hparts'⟩ := ih hb
      exact ⟨c', List.mem_cons_of_mem _ hc', hparts'⟩
  | payload bytes up x down => simp [opcodesSentFrom_dataEvents] at hb

/-- R72: the commands of a host operation have one of the five opcodes. -/
theorem mem_emittedOpcodes_of_mem_expansion {p : Params} {i c : Instr} {b : Byte} {ps : List Byte}
    (hi : isWire i = false) (hc : c ∈ expansion p i) (hparts : wireParts p c = some (b, ps)) :
    b ∈ emittedOpcodes p.opcodes := by
  cases i <;> simp only [isWire, Bool.true_eq_false] at hi
  all_goals simp only [expansion, List.mem_cons, List.not_mem_nil, or_false] at hc
  case write =>
    obtain rfl | rfl | rfl := hc <;> cases hparts <;> simp [emittedOpcodes]
  all_goals subst hc
  all_goals cases hparts
  all_goals simp [emittedOpcodes]

/-- R80: no call decodes to a wire command or a payload, since none is encoded as a call. -/
theorem isWire_of_decode_call {p : Params} {c : Call} {i : Instr} (h : decode p (.call c) = .ok i) : isWire i = false := by
  have hencode : encode p i = .call c := encode_of_decode h
  cases i <;> cases hencode <;> rfl

theorem exec_opcodes {i : Instr} {s t : State} (hi : isWire i = false) (hwf : wellFormed s.params i = true)
    (h : exec i s = .next t) {b : Byte} (hb : b ∈ opcodesSent t.trace) :
    b ∈ opcodesSent s.trace ∨ b ∈ emittedOpcodes s.params.opcodes := by
  obtain ⟨why, rfl⟩ | ⟨i', evs, hread, htrace, htraffic⟩ := (exec_ran h).traffic hwf
  · exact .inl hb
  · rw [htrace] at hb
    refine (mem_opcodesSentFrom_append hb).imp_right fun ⟨lowered, hb⟩ => ?_
    obtain ⟨c, hc, ps, hparts⟩ := htraffic.opcode_of_command hb
    exact mem_emittedOpcodes_of_mem_expansion (hread.isWire_eq.trans hi) hc hparts

theorem hostDriven_resetWith (p : Params) (o : Oracle) (calls : List Request) :
    ({ State.resetWith p o with inbox := calls } : State).HostDriven where
  noBench := rfl
  opcodes := nofun

theorem step_keeps_hostDriven {s t : State} (hs : s.HostDriven) (h : step s = .next t) : t.HostDriven where
  noBench := (step_surroundings h).2.2
  opcodes b hb := by
    rw [step_params h]
    obtain ⟨-, -, rfl⟩ | ⟨-, rfl⟩ | ⟨w, i, hbench, -⟩ | ⟨r, rest, i, -, -, hdecode, hexec⟩ := step_cases h
    · exact hs.opcodes b hb
    · exact hs.opcodes b hb
    · rw [hs.noBench] at hbench
      cases hbench
    · have hhost : isWire i = false := isWire_of_decode_call hdecode
      exact (exec_opcodes (s := s.taken) hhost (decode_wellFormed hdecode) hexec hb).elim (hs.opcodes b) id

/-- R71, R72: REMAP's opcode is distinct from the five. -/
theorem remap_not_mem_emittedOpcodes {p : Params} (hp : p.Valid) : p.opcodes.remap ∉ emittedOpcodes p.opcodes := by
  obtain ⟨-, -, -, -, -, hdistinct⟩ := hp
  simp only [Opcodes.all, List.nodup_cons, List.mem_cons, List.not_mem_nil, or_false, not_or] at hdistinct
  simp [emittedOpcodes, hdistinct, eq_comm]

end Sys2Proof.Machine

namespace Sys2Proof.Proofs
open Sys2Proof.Machine

/-- Settles O54: a call of the host appends the traffic of its expansion, the opcodes of which are among the five. -/
theorem stepSendsOnlyTheFiveOpcodes : Obligations.StepSendsOnlyTheFiveOpcodes := fun _ _ => step_keeps_hostDriven

/-- Settles O55, by induction on the run. -/
theorem reachableTracesHoldNoRemap : Obligations.ReachableTracesHoldNoRemap := by
  intro p s hp hreach
  obtain ⟨hs, rfl⟩ := reachable_induction (hostDriven_resetWith p) (fun _ _ _ => step_keeps_hostDriven) hreach
  exact ⟨fun hremap => remap_not_mem_emittedOpcodes hp (hs.opcodes _ hremap), hs.opcodes⟩

end Sys2Proof.Proofs
end

section
/-! PROOFS. The table of `send` (R82, R83): the answers to the lowering and to the one or two transfers determine the events,
the result and the level. -/
namespace Sys2Proof.Machine
open Sys2Proof.Spec

/-- R83: the level after `send` is the one its `GpioSet` left. -/
theorem dcAfter_low (g : Reply) : dcAfter .low g = sendDc g := by
  simp [dcAfter_eq, sendDc]

theorem send_of_answers {s : State} {opc : Byte} {ps : List Byte} {g x q : Reply}
    (h : SendAnswers s.oracle 0 s.params.encDcChecked ps g x q) :
    send opc ps s = some (sendReply s.params.encDcChecked ps g x q, { s with
      dc := sendDc g
      trace := s.trace ++ sendEvents s.params.encDcChecked opc ps g x q
      oracle := s.oracle.advance (sendEvents s.params.encDcChecked opc ps g x q).length }) := by
  obtain ⟨hlow, hrest⟩ := h
  unfold send
  rw [gpioSet_eq .low s hlow, dcAfter_low]
  dsimp only
  by_cases hended : s.params.encDcChecked = true ∧ g = .err
  · simp [hended, sendReply, sendEvents, sendDc, State.called, State.drive]
  · obtain ⟨hopc, hparams⟩ := hrest hended
    rw [if_neg hended, busTransfer_eq [opc] _ (x := x) (by simpa using hopc)]
    cases x with
    | err => simp [hended, sendReply, sendEvents, sendDc, State.called, State.drive]
    | ok =>
      dsimp only
      by_cases hps : ps = []
      · simp [hended, hps, sendReply, sendEvents, sendDc, State.called, State.drive]
      · rw [if_neg hps, busTransfer_eq ps _ (x := q) (by simpa using hparams rfl hps)]
        simp [hended, hps, sendReply, sendEvents, sendDc, State.called, State.drive]

/-- R85 to R90: a wire command is, past the gate, `send` of its opcode and parameters. -/
theorem exec_of_wireParts {s : State} {i : Instr} {opc : Byte} {ps : List Byte}
    (h : wireParts s.params i = some (opc, ps)) : exec i s = whenInitialized s (finish (send opc ps s)) := by
  cases i <;> cases h <;> rfl

end Sys2Proof.Machine

namespace Sys2Proof.Proofs
open Sys2Proof.Machine

/-- Settles O14: by the calls in their order, up to the one that ends `send`. -/
theorem sendFollowsItsTable : Obligations.SendFollowsItsTable := fun _ _ _ _ _ _ => send_of_answers

/-- Settles O15: by the calls in their order, up to the first that fails. -/
theorem sendDataShortCircuits : Obligations.SendDataShortCircuits := fun _ _ _ _ _ => sendData_of_answers

/-- Settles O16: past the gate each wire command is `send`, the table of which is known. -/
theorem wireCommandsFollowTheSendTable : Obligations.WireCommandsFollowTheSendTable := by
  intro s i opc ps g x q hparts hlife hanswers
  rw [exec_of_wireParts hparts, whenInitialized_initialized hlife, send_of_answers hanswers, ← ioResult_eq]
  rfl

end Sys2Proof.Proofs
end

section
/-! PROOFS. What the host cannot ask for (R73, R80): the bench of a reachable state is empty, so a step can only take up a
call. -/
namespace Sys2Proof.Machine

theorem Reachable.bench {p : Params} {s : State} (h : Reachable p s) : s.bench = none :=
  (reachable_induction (P := fun s => s.bench = none) (fun _ _ => rfl)
    (fun _ _ _ _ hstep => (step_surroundings hstep).2.2) h).1

end Sys2Proof.Machine

namespace Sys2Proof.Proofs
open Sys2Proof.Machine

/-- Settles O53: of the ways in which a step answers, an empty bench rules out the one that runs a word from there. -/
theorem hostCannotCallTheEncoder : Obligations.HostCannotCallTheEncoder := by
  refine ⟨fun _ _ _ => isWire_of_decode_call, fun p s t hreach hstep => ⟨hreach.bench, ?_⟩⟩
  obtain ⟨-, -, hwait⟩ | ⟨-, hrefused⟩ | ⟨w, i, hbench, -⟩ | ⟨r, rest, i, -, -, hdecode, hexec⟩ := step_cases hstep
  · exact .inl hwait
  · exact .inr (.inl hrefused)
  · simp [hreach.bench] at hbench
  · exact .inr (.inr ⟨i, isWire_of_decode_call hdecode, hexec⟩)

end Sys2Proof.Proofs
end

section
/-! PROOFS. The opcodes of two runs of events (R81): a run that does not begin with a transfer is read the same whatever
stands before it. -/
namespace Sys2Proof.Machine

theorem opcodesSentFrom_cons_of_ne_xfer (lowered : Bool) {e : Event} (he : ∀ d bs ans, e ≠ .xfer d bs ans)
    (es : List Event) : opcodesSentFrom lowered (e :: es) = opcodesSent (e :: es) := by
  cases e with
  | xfer d bs ans => exact absurd rfl (he d bs ans)
  | setDC l a => rfl
  | cfgOut a => rfl
  | getBus n f => rfl
  | getGpio n f => rfl

theorem opcodesSentFrom_append_cons (lowered : Bool) (as : List Event) {e : Event}
    (he : ∀ d bs ans, e ≠ .xfer d bs ans) (es : List Event) :
    opcodesSentFrom lowered (as ++ e :: es) = opcodesSentFrom lowered as ++ opcodesSent (e :: es) := by
  induction as generalizing lowered with
  | nil => exact opcodesSentFrom_cons_of_ne_xfer lowered he es
  | cons a as ih => cases a <;> simp [opcodesSentFrom, ih]

end Sys2Proof.Machine

namespace Sys2Proof.Proofs
open Sys2Proof.Machine

/-- Settles O56: row by row of the two tables, and by induction on the first run of events. -/
theorem opcodePositionIsTheOpcodeTransfer : Obligations.OpcodePositionIsTheOpcodeTransfer :=
  ⟨opcodesSentFrom_sendEvents false, opcodesSentFrom_dataEvents false,
    fun as es _ he => opcodesSentFrom_append_cons false as he es⟩

end Sys2Proof.Proofs
end

section
/-! PROOFS. The Addressing Translator (R100): the column end for a pitch below the panel width (R104) and for any other
(R113); the window laws, and what they say of the range (R108), are arithmetic of halves from there on. -/
namespace Sys2Proof.Machine

@[simp] theorem computeWindow_colStart (p : Params) (x y : HalfWord) (pitch : Option HalfWord) :
    (computeWindow p x y pitch).colStart = ((x.toNat / 2 : Nat) : Int) := rfl

@[simp] theorem computeWindow_rowStart (p : Params) (x y : HalfWord) (pitch : Option HalfWord) :
    (computeWindow p x y pitch).rowStart = (y.toNat : Int) := rfl

@[simp] theorem computeWindow_rowEnd (p : Params) (x y : HalfWord) (pitch : Option HalfWord) :
    (computeWindow p x y pitch).rowEnd = lastRow p := rfl

/-- A pitch that asks for the panel's whole width (R113): absent, 0, or not below it. -/
def IsFullWidth (p : Params) (pitch : Option HalfWord) : Prop :=
  pitch = none ∨ ∃ n, pitch = some n ∧ (n.toNat = 0 ∨ p.width ≤ n.toNat)

theorem isFullWidth_some {p : Params} {n : HalfWord} : IsFullWidth p (some n) ↔ n.toNat = 0 ∨ p.width ≤ n.toNat := by
  simp [IsFullWidth]

theorem isFullWidth_or_narrow (p : Params) (pitch : Option HalfWord) :
    IsFullWidth p pitch ∨ ∃ n, pitch = some n ∧ 0 < n.toNat ∧ n.toNat < p.width := by
  cases pitch with
  | none => exact .inl (.inl rfl)
  | some n =>
    by_cases h : 0 < n.toNat ∧ n.toNat < p.width
    · exact .inr ⟨n, rfl, h⟩
    · exact .inl (isFullWidth_some.2 (by omega))

/-- R104: the column end for a pitch below the panel width. -/
theorem computeWindow_colEnd_of_narrow {p : Params} {n : HalfWord} (x y : HalfWord) (hpos : 0 < n.toNat)
    (hlt : n.toNat < p.width) :
    (computeWindow p x y (some n)).colEnd = ((x.toNat / 2 : Nat) : Int) + ((n.toNat / 2 : Nat) : Int) - 1 := by
  simp [computeWindow, colEndOf, hpos, hlt]

/-- R113: the column end for a full width is the panel's last, wherever the window starts. -/
theorem computeWindow_colEnd_of_fullWidth {p : Params} {pitch : Option HalfWord} (x y : HalfWord)
    (h : IsFullWidth p pitch) : (computeWindow p x y pitch).colEnd = lastCol p := by
  obtain rfl | ⟨n, rfl, hn⟩ := h
  · rfl
  · exact if_neg (by omega)

/-- R108 for a computed window: its start and its bottom row need no check on the low side, nor its last row any. -/
theorem inRange_computeWindow_iff {p : Params} {x y : HalfWord} {pitch : Option HalfWord} (hp : p.Valid) :
    inRange p (computeWindow p x y pitch) ↔ y.toNat ≤ p.height - 1 ∧ x.toNat ≤ p.width - 1 ∧
      0 ≤ (computeWindow p x y pitch).colEnd ∧ (computeWindow p x y pitch).colEnd ≤ lastCol p := by
  obtain ⟨heven, hwidth, -, hheight, -, -⟩ := hp
  simp only [inRange, computeWindow_colStart, computeWindow_rowStart, computeWindow_rowEnd, lastCol, lastRow, and_true]
  omega

/-- R8: the panel holds a column byte. -/
theorem lastCol_nonneg {p : Params} (hp : p.Valid) : 0 ≤ lastCol p := by
  obtain ⟨-, hwidth, -⟩ := hp
  simp only [lastCol]
  omega

end Sys2Proof.Machine

namespace Sys2Proof.Proofs
open Sys2Proof.Machine

/-- Settles O30: a full width puts the column end in range, and a pitch below it by the sum of the two halves. -/
theorem windowInRangeByOperands : Obligations.WindowInRangeByOperands := by
  intro p x y pitch hp
  refine ⟨(inRange_computeWindow_iff hp).trans (and_congr_right' (and_congr_right' ?_)), ?_⟩
  · obtain hfull | ⟨n, rfl, hpos, hlt⟩ := isFullWidth_or_narrow p pitch
    · rw [computeWindow_colEnd_of_fullWidth x y hfull]
      refine iff_of_true ⟨lastCol_nonneg hp, le_rfl⟩ ?_
      rintro n rfl hpos hlt
      have hwide : n.toNat = 0 ∨ p.width ≤ n.toNat := isFullWidth_some.1 hfull
      omega
    · rw [computeWindow_colEnd_of_narrow x y hpos hlt]
      simp only [lastCol, Option.some.injEq, forall_eq', hpos, hlt, forall_const]
      omega
  · obtain ⟨heven, -⟩ := hp
    intro n hx hn
    omega

/-- Settles O33: the last column of the panel is not negative, and `x / 2 + p / 2` is 0 for these operands alone. -/
theorem negativeColumnEnd : Obligations.NegativeColumnEnd := by
  intro p x y pitch hp
  obtain hfull | ⟨n, rfl, hpos, hlt⟩ := isFullWidth_or_narrow p pitch
  · rw [computeWindow_colEnd_of_fullWidth x y hfull]
    have hlast : 0 ≤ lastCol p := lastCol_nonneg hp
    obtain ⟨-, hwidth, -⟩ := hp
    refine ⟨iff_of_false (by omega) ?_, by omega⟩
    rintro ⟨-, rfl⟩
    have hwide : 1 = 0 ∨ p.width ≤ 1 := isFullWidth_some.1 hfull
    omega
  · rw [computeWindow_colEnd_of_narrow x y hpos hlt]
    have hone : some n = some (1 : HalfWord) ↔ n.toNat = 1 := by simp [BitVec.toNat_eq]
    rw [hone]
    omega

/-- Settles O31: the two forms of the column end. -/
theorem windowLaws : Obligations.WindowLaws := fun _ x y _ _ =>
  ⟨fun hpos hlt => ⟨rfl, computeWindow_colEnd_of_narrow x y hpos hlt, rfl, rfl⟩,
    fun hfull => computeWindow_colEnd_of_fullWidth x y (isFullWidth_some.2 hfull.symm)⟩

/-- Settles O32: of an odd operand, as of the even one below it, only the half counts. -/
theorem oddOperandsAreFloored : Obligations.OddOperandsAreFloored := by
  intro p x y n pitch hp
  obtain ⟨-, hwidth, -⟩ := hp
  refine ⟨fun k hx => ?_, fun m hn hm hpos hlt => ?_, fun hn => ?_⟩
  · rw [computeWindow_colStart]
    omega
  · have hhalf : n.toNat / 2 = m.toNat / 2 := by omega
    rw [computeWindow_colEnd_of_narrow x y (by omega) hlt, computeWindow_colEnd_of_narrow x y hpos (by omega), hhalf]
  · rw [computeWindow_colEnd_of_narrow x y (by omega) (by omega), computeWindow_colStart, hn]
    rfl

/-- Settles O34: the two forms of the column end, less the column start. -/
theorem windowWidth : Obligations.WindowWidth := by
  refine ⟨fun p x y n _ _ hn hpos hlt _ => ⟨?_, by omega⟩, fun p x y pitch _ hfull => ?_⟩
  · rw [computeWindow_colEnd_of_narrow x y hpos hlt, computeWindow_colStart]
    omega
  · have hend := computeWindow_colEnd_of_fullWidth x y hfull
    refine ⟨rfl, hend, fun hx => ?_⟩
    rw [hend, computeWindow_colStart, hx]
    simp [lastCol]

end Sys2Proof.Proofs
end

section
/-! PROOFS. The gate of R120: each operation that uses the bus, and by log 14 each wire row, is its own part behind the gate
`whenInitialized`, so an uninitialized block refuses it. -/
namespace Sys2Proof.Machine
open Sys2Proof.Spec

theorem exec_eq_whenInitialized {i : Instr} (h : usesBus i = true ∨ isWire i = true) (s : State) :
    ∃ go, exec i s = whenInitialized s go := by
  cases i <;> simp only [usesBus, isWire, Bool.false_eq_true, or_self] at h <;> exact ⟨_, rfl⟩

theorem exec_uninitialized {i : Instr} {s : State} (h : usesBus i = true ∨ isWire i = true)
    (hlife : s.life = .uninitialized) : exec i s = .next (s.refuse .notInitialized) := by
  obtain ⟨go, hgo⟩ := exec_eq_whenInitialized h s
  rw [hgo, whenInitialized_uninitialized hlife]

end Sys2Proof.Machine

namespace Sys2Proof.Proofs
open Sys2Proof.Machine

/-- Settles O18: the four stand behind the gate. -/
theorem busOperationsNeedInitialize : Obligations.BusOperationsNeedInitialize := fun _ _ hbus hlife =>
  exec_uninitialized (.inl hbus) hlife

/-- Settles O19: the seven stand behind the gate (log 14). -/
theorem wireRowsNeedInitialize : Obligations.WireRowsNeedInitialize := fun _ _ hwire hlife =>
  exec_uninitialized (.inr hwire) hlife

end Sys2Proof.Proofs
end

section
/-! PROOFS. `initDevice` (R121, R122): the answers to the two lookups and the pin configuration determine what its body
does. -/
namespace Sys2Proof.Machine
open Sys2Proof.Spec

theorem acquireAll_of_found {s : State} {b g : Handle} (cfg : InstanceConfig)
    (h : InitAnswers s.oracle (some b) (some g) .ok) :
    acquireAll cfg s = some (.ok, { s with
      life := .initialized
      bus := some b
      gpio := some g
      busCfg := some (busConfigOf cfg)
      dcOut := true
      trace := s.trace ++ initEvents cfg (some b) (some g) .ok
      oracle := s.oracle.advance 3 }) := by
  obtain ⟨hbus, hrest⟩ := h
  obtain ⟨hgpio, hpin⟩ := hrest (by simp)
  unfold acquireAll
  rw [getBusHandle_eq _ s hbus]
  dsimp only
  rw [getGpioHandle_eq _ _ (g := some g) (by simpa using hgpio)]
  dsimp only
  rw [gpioConfigureOutput_eq _ (c := .ok) (by simpa using hpin (by simp))]
  simp [State.called, State.acquire, initEvents]

/-- R121: the first failure ends the body, which then has written its events and nothing else. -/
theorem acquireAll_of_failed {s : State} {b g : Option Handle} {c : Reply} (cfg : InstanceConfig)
    (h : InitAnswers s.oracle b g c) (hfail : b = none ∨ g = none ∨ c = .err) :
    acquireAll cfg s = some (.err .initError, { s with
      trace := s.trace ++ initEvents cfg b g c
      oracle := s.oracle.advance (initEvents cfg b g c).length }) := by
  obtain ⟨hbus, hrest⟩ := h
  unfold acquireAll
  rw [getBusHandle_eq _ s hbus]
  cases b with
  | none => rfl
  | some b =>
    obtain ⟨hgpio, hpin⟩ := hrest (by simp)
    dsimp only
    rw [getGpioHandle_eq _ _ (g := g) (by simpa using hgpio)]
    cases g with
    | none => simp [State.called, initEvents]
    | some g =>
      obtain rfl : c = .err := by simpa using hfail
      dsimp only
      rw [gpioConfigureOutput_eq _ (c := .err) (by simpa using hpin (by simp))]
      simp [State.called, initEvents]

theorem exec_initDevice_initialized {s : State} (hlife : s.life = .initialized) (cfg : InstanceConfig) :
    exec (.initDevice cfg) s = .next (s.refuse .alreadyInitialized) := by
  simp only [exec, execInitialize, hlife]

theorem exec_initDevice_uninitialized {s u : State} {cfg : InstanceConfig} {r : Result}
    (hlife : s.life = .uninitialized) (h : acquireAll cfg s = some (r, u)) :
    exec (.initDevice cfg) s = .next (u.ret r) := by
  simp only [exec, execInitialize, hlife, h]

end Sys2Proof.Machine

namespace Sys2Proof.Proofs
open Sys2Proof.Machine

/-- Settles O20: a second call is refused; a first one does what its body does for these answers. -/
theorem initializeAcquiresInOrder : Obligations.InitializeAcquiresInOrder :=
  ⟨fun _ cfg hlife => exec_initDevice_initialized hlife cfg,
    fun _ cfg _ _ hlife hanswers => exec_initDevice_uninitialized hlife (acquireAll_of_found cfg hanswers),
    fun _ cfg _ _ _ hlife hanswers hfail => exec_initDevice_uninitialized hlife (acquireAll_of_failed cfg hanswers hfail)⟩

end Sys2Proof.Proofs
end

section
/-! PROOFS. The operations that send one command and record its success (R123, R124, R131). -/
namespace Sys2Proof.Machine
open Sys2Proof.Spec

theorem exec_of_recordedBy {s : State} {i : Instr} {opc : Byte} {ps : List Byte} {f : State → State}
    (h : recordedBy s.params i = some (opc, ps, f)) :
    exec i s = whenInitialized s (finish ((send opc ps s).map (onOk f))) := by
  cases i <;> cases h <;> rfl

/-- Past the gate, such an operation does what the table of `send` says, and then records. -/
theorem exec_record_of_answers {s : State} {i : Instr} {opc : Byte} {ps : List Byte} {f : State → State}
    {g x q : Reply} (h : recordedBy s.params i = some (opc, ps, f)) (hlife : s.life = .initialized)
    (hanswers : SendAnswers s.oracle 0 s.params.encDcChecked ps g x q) :
    exec i s = finish (some (onOk f (sendReply s.params.encDcChecked ps g x q, { s with
      dc := sendDc g
      trace := s.trace ++ sendEvents s.params.encDcChecked opc ps g x q
      oracle := s.oracle.advance (sendEvents s.params.encDcChecked opc ps g x q).length }))) := by
  rw [exec_of_recordedBy h, whenInitialized_initialized hlife, send_of_answers hanswers, Option.map_some]

/-- R28: the flag is written on `Ok` only. -/
theorem onOk_setDisplay (d : Display) (r : Reply) (s : State) :
    onOk (State.setDisplay d) (r, s) = (r, { s with displayOn := if r = .ok then d else s.displayOn }) := by
  cases r <;> rfl

/-- R27: the value is recorded on `Ok` only. -/
theorem onOk_setContrast (v : Byte) (r : Reply) (s : State) :
    onOk (State.setContrast v) (r, s) = (r, { s with contrast := if r = .ok then some v else s.contrast }) := by
  cases r <;> rfl

end Sys2Proof.Machine

namespace Sys2Proof.Proofs
open Sys2Proof.Machine

/-- Settles O21: both are a recorded `send` without parameters, behind the gate. -/
theorem blankingSendsAndRecords : Obligations.BlankingSendsAndRecords := by
  refine ⟨fun s hlife => ⟨exec_uninitialized (.inl rfl) hlife, exec_uninitialized (.inl rfl) hlife⟩,
    fun s g x q hlife hanswers => ⟨?_, ?_⟩⟩
  · rw [exec_record_of_answers rfl hlife hanswers, onOk_setDisplay, ← ioResult_eq]
    rfl
  · rw [exec_record_of_answers rfl hlife hanswers, onOk_setDisplay, ← ioResult_eq]
    rfl

/-- Settles O22: a recorded `send` of the value itself, behind the gate. -/
theorem setContrastSendsAndRecords : Obligations.SetContrastSendsAndRecords := by
  refine ⟨fun s v hlife => exec_uninitialized (.inl rfl) hlife, fun s v g x q hlife hanswers => ?_⟩
  rw [exec_record_of_answers rfl hlife hanswers, onOk_setContrast, ← ioResult_eq]
  rfl

end Sys2Proof.Proofs
end

section
/-! PROOFS. `write` (R126 to R130): its preconditions, and what the answers to its three phases determine. -/
namespace Sys2Proof.Machine
open Sys2Proof.Spec

/-! ### The preconditions -/

/-- Past the gate, a `write` without a buffer or with size 0 is refused (R126). -/
theorem exec_write_emptyBuffer {s : State} {r : WriteRegion} (hlife : s.life = .initialized) (x y : HalfWord)
    (hbuf : r.buf = none ∨ r.bufSize = 0) : exec (.write x y r) s = .next (s.refuse .emptyBuffer) := by
  simp only [exec, execWrite, whenInitialized_initialized hlife]
  split
  · rfl
  · rename_i buf hsome
    have hsize : r.bufSize = 0 := by simpa [hsome] using hbuf
    rw [if_pos hsize]

/-- A `write` with a buffer turns on its window alone (R126). -/
theorem exec_write_buffer {s : State} {r : WriteRegion} {buf : List Byte} (hlife : s.life = .initialized)
    (x y : HalfWord) (hbuf : r.buf = some buf) (hsize : r.bufSize ≠ 0) :
    exec (.write x y r) s = if inRange s.params (computeWindow s.params x y r.pitch) then
      finish (writeRegion (computeWindow s.params x y r.pitch) buf r.bufSize s) else .next (s.refuse .windowOutOfRange) := by
  simp only [exec, execWrite, whenInitialized_initialized hlife, hbuf, if_neg hsize]

theorem exec_write_accepted {s : State} {x y : HalfWord} {r : WriteRegion} {buf : List Byte}
    (h : Accepted s x y r buf) :
    exec (.write x y r) s = finish (writeRegion (computeWindow s.params x y r.pitch) buf r.bufSize s) := by
  obtain ⟨hlife, hbuf, hsize, hwindow⟩ := h
  rw [exec_write_buffer hlife x y hbuf hsize, if_pos hwindow]

/-! ### The answers -/

@[simp] theorem sendAnswers_advance {o : Oracle} {n k : Nat} {checked : Bool} {ps : List Byte} {g x q : Reply} :
    SendAnswers (o.advance n) k checked ps g x q ↔ SendAnswers o (n + k) checked ps g x q := by
  simp [SendAnswers, Nat.add_assoc]

@[simp] theorem dataAnswers_advance {o : Oracle} {n k : Nat} {up x down : Reply} :
    DataAnswers (o.advance n) k up x down ↔ DataAnswers o (n + k) up x down := by
  simp [DataAnswers, Nat.add_assoc]

/-- A `send` that comes back was answered; an answer it did not ask for may be any. -/
theorem exists_sendAnswers {opc : Byte} {ps : List Byte} {s t : State} {r : Reply} (h : send opc ps s = some (r, t)) :
    ∃ g x q, SendAnswers s.oracle 0 s.params.encDcChecked ps g x q := by
  obtain ⟨g, hg, ⟨hc, rfl, -⟩ | ⟨-, x, hx, ⟨rfl, -⟩ | ⟨rfl, rfl, -⟩ | ⟨rfl, -, hq, -⟩⟩⟩ := send_cases h
  · exact ⟨.err, .ok, .ok, hg, fun hgoes => absurd ⟨hc, rfl⟩ hgoes⟩
  · exact ⟨g, .err, .ok, hg, fun _ => ⟨hx, nofun⟩⟩
  · exact ⟨g, .ok, .ok, hg, fun _ => ⟨hx, fun _ hps => absurd rfl hps⟩⟩
  · exact ⟨g, .ok, r, hg, fun _ => ⟨hx, fun _ _ => hq⟩⟩

/-- A `send_data` that comes back was answered. -/
theorem exists_dataAnswers {bytes : List Byte} {s t : State} {r : Reply} (h : sendData bytes s = some (r, t)) :
    ∃ up x down, DataAnswers s.oracle 0 up x down := by
  obtain ⟨hup, -⟩ | ⟨hup, hx, -⟩ | ⟨hup, hx, hdown, -⟩ := sendData_cases h
  · exact ⟨.err, .ok, .ok, hup, nofun⟩
  · exact ⟨.ok, .err, .ok, hup, fun _ => ⟨hx, nofun⟩⟩
  · exact ⟨.ok, .ok, r, hup, fun _ => ⟨hx, fun _ => hdown⟩⟩

/-! ### The three phases -/

/-- The events of the row command of a `write` (R127). -/
abbrev rowEvents (p : Params) (w : Window) (g x q : Reply) : List Event :=
  sendEvents p.encDcChecked p.opcodes.rowAddr (rowParams w) g x q

/-- The events of the column command of a `write` (R127). -/
abbrev colEvents (p : Params) (w : Window) (g x q : Reply) : List Event :=
  sendEvents p.encDcChecked p.opcodes.colAddr (colParams w) g x q

/-- R127, R128: the three phases run one after another, and the last one decides. -/
theorem writeRegion_of_answers {s : State} {w : Window} {buf : List Byte} {size n : Nat}
    {g₁ x₁ q₁ g₂ x₂ q₂ up x down : Reply}
    (hn : n = (rowEvents s.params w g₁ x₁ q₁).length + (colEvents s.params w g₂ x₂ q₂).length)
    (hrow : SendAnswers s.oracle 0 s.params.encDcChecked (rowParams w) g₁ x₁ q₁)
    (hcol : SendAnswers s.oracle (rowEvents s.params w g₁ x₁ q₁).length s.params.encDcChecked (colParams w) g₂ x₂ q₂)
    (hdata : DataAnswers s.oracle n up x down) :
    writeRegion w buf size s = some (dataReply up x down, { s with
      dc := dataDc up x down
      trace := s.trace ++ (rowEvents s.params w g₁ x₁ q₁ ++ colEvents s.params w g₂ x₂ q₂ ++
        dataEvents (memRead (s.oracle.drawn + n) buf size) up x down)
      oracle := s.oracle.advance (n + (dataEvents (memRead (s.oracle.drawn + n) buf size) up x down).length) }) := by
  subst hn
  unfold writeRegion
  rw [send_of_answers hrow]
  dsimp only
  rw [send_of_answers (by simpa using hcol)]
  dsimp only
  rw [sendData_of_answers (by simpa using hdata)]
  simp [Nat.add_assoc]

/-- A `write` whose phases come back was answered, each phase from where the one before it stopped. -/
theorem exists_writeAnswers {w : Window} {buf : List Byte} {size : Nat} {s t : State} {r : Reply}
    (h : writeRegion w buf size s = some (r, t)) :
    ∃ g₁ x₁ q₁ g₂ x₂ q₂ up x down,
      SendAnswers s.oracle 0 s.params.encDcChecked (rowParams w) g₁ x₁ q₁ ∧
      SendAnswers s.oracle (rowEvents s.params w g₁ x₁ q₁).length s.params.encDcChecked (colParams w) g₂ x₂ q₂ ∧
      DataAnswers s.oracle ((rowEvents s.params w g₁ x₁ q₁).length + (colEvents s.params w g₂ x₂ q₂).length)
        up x down := by
  obtain ⟨r₁, s₁, r₂, s₂, hrow, hcol, hdata⟩ := writeRegion_cases h
  obtain ⟨g₁, x₁, q₁, hrowAnswers⟩ := exists_sendAnswers hrow
  rw [send_of_answers hrowAnswers] at hrow
  cases hrow
  obtain ⟨g₂, x₂, q₂, hcolAnswers⟩ := exists_sendAnswers hcol
  rw [send_of_answers hcolAnswers] at hcol
  cases hcol
  obtain ⟨up, x, down, hdataAnswers⟩ := exists_dataAnswers hdata
  exact ⟨g₁, x₁, q₁, g₂, x₂, q₂, up, x, down, hrowAnswers, by simpa using hcolAnswers, by simpa using hdataAnswers⟩

end Sys2Proof.Machine

namespace Sys2Proof.Proofs
open Sys2Proof.Machine

/-- Settles O23: the gate, then the buffer, then the window. -/
theorem writePreconditionsInOrder : Obligations.WritePreconditionsInOrder := by
  refine fun s x y r => ⟨exec_uninitialized (.inl rfl), fun hlife => exec_write_emptyBuffer hlife x y,
    fun hlife hbuf hsize hwindow => ?_⟩
  obtain ⟨buf, hbuf⟩ := Option.ne_none_iff_exists'.1 hbuf
  rw [exec_write_buffer hlife x y hbuf hsize, if_neg hwindow]
  rfl

/-- Settles O24: past the preconditions a `write` is its three phases. -/
theorem writeSendsWindowThenPayload : Obligations.WriteSendsWindowThenPayload := by
  intro s x y r buf g₁ x₁ q₁ g₂ x₂ q₂ up xd down haccepted p w row col evs₁ evs₂ n evs₃ hrow hcol hdata
  rw [exec_write_accepted haccepted, writeRegion_of_answers rfl hrow hcol hdata, ← ioResult_eq]
  rfl

/-- Settles O26: a `write` that answers next was answered in every phase, and then O24 says what it did. -/
theorem addressingFailuresAreSwallowed : Obligations.AddressingFailuresAreSwallowed := by
  intro s t x y r buf haccepted hexec
  have hphases := hexec
  rw [exec_write_accepted haccepted] at hphases
  obtain ⟨reply, u, hregion, -⟩ := finish_eq_next hphases
  obtain ⟨g₁, x₁, q₁, g₂, x₂, q₂, up, xd, down, hrow, hcol, hdata⟩ := exists_writeAnswers hregion
  rw [writeSendsWindowThenPayload s x y r buf g₁ x₁ q₁ g₂ x₂ q₂ up xd down haccepted hrow hcol hdata] at hexec
  cases hexec
  exact ⟨g₁, x₁, q₁, g₂, x₂, q₂, up, xd, down, hrow, hcol, hdata, by simp only [List.append_assoc], rfl, rfl⟩

end Sys2Proof.Proofs
end

section
/-! PROOFS. The operations that touch no collaborator (R132 to R137): each hands back the answer of `answerOf`. -/
namespace Sys2Proof.Machine

theorem exec_of_answerOf {s : State} {i : Instr} {r : Result} (h : answerOf s.params i = some r) :
    exec i s = .next (s.ret r) := by
  cases i <;> cases h <;> rfl

end Sys2Proof.Machine

namespace Sys2Proof.Proofs
open Sys2Proof.Machine

/-- Settles O27: the answer is `formatResult`. -/
theorem setPixelFormatKnowsOneFormat : Obligations.SetPixelFormatKnowsOneFormat := by
  refine fun s => ⟨exec_of_answerOf rfl, fun f hf => exec_of_answerOf ?_⟩
  simp only [answerOf, formatResult, if_neg hf]

/-- Settles O28: the answer is the descriptor `capsOf`. -/
theorem getCapabilitiesDescribesThePanel : Obligations.GetCapabilitiesDescribesThePanel := fun _ =>
  exec_of_answerOf rfl

/-- Settles O29: the answer of the four is `Unsupported`, whatever the arguments. -/
theorem absentCapabilitiesAnswerUnsupported : Obligations.AbsentCapabilitiesAnswerUnsupported := fun _ _ =>
  ⟨exec_of_answerOf rfl, exec_of_answerOf rfl, exec_of_answerOf rfl, exec_of_answerOf rfl⟩

end Sys2Proof.Proofs
end

section
/-! PROOFS. Noninterference (R139, R184): two states that agree on everything but the records, the level of the line, the
mark and the handles have the same course, since the tables of R82, R91 and R121 read none of these. -/
namespace Sys2Proof.Machine
open Sys2Proof.Spec

/-- The two states agree on the fields on which an outcome can depend, and on those that show it. -/
structure Agree (s s' : State) : Prop where
  life : s'.life = s.life
  params : s'.params = s.params
  oracle : s'.oracle = s.oracle
  trace : s'.trace = s.trace
  ends : s'.ends = s.ends

theorem Agree.refuse {s s' : State} (h : Agree s s') (why : RefuseReason) : Agree (s.refuse why) (s'.refuse why) :=
  ⟨h.life, h.params, h.oracle, h.trace, by simp [h.ends]⟩

theorem Agree.ret {s s' : State} (h : Agree s s') (r : Result) : Agree (s.ret r) (s'.ret r) :=
  ⟨h.life, h.params, h.oracle, h.trace, by simp [h.ends]⟩

theorem Agree.setDisplay {s s' : State} (h : Agree s s') (d : Display) : Agree (s.setDisplay d) (s'.setDisplay d) :=
  ⟨h.life, h.params, h.oracle, h.trace, h.ends⟩

theorem Agree.setContrast {s s' : State} (h : Agree s s') (v : Byte) : Agree (s.setContrast v) (s'.setContrast v) :=
  ⟨h.life, h.params, h.oracle, h.trace, h.ends⟩

/-- Whenever the first operation comes back, the second does, with the same result and in a state that agrees. -/
def AgreeReply {α : Type} (o o' : Option (α × State)) : Prop :=
  ∀ r t, o = some (r, t) → ∃ t', o' = some (r, t') ∧ Agree t t'

/-- Whenever the first outcome is a next state, the second is one that agrees with it. -/
def AgreeNext (o o' : Host.Outcome State Fault Refusal) : Prop :=
  ∀ t, o = .next t → ∃ t', o' = .next t' ∧ Agree t t'

/-! ### The shared operations -/

theorem Agree.send {s s' : State} (h : Agree s s') (opc : Byte) (ps : List Byte) :
    AgreeReply (send opc ps s) (send opc ps s') := by
  intro r t hsend
  obtain ⟨g, x, q, hanswers⟩ := exists_sendAnswers hsend
  rw [send_of_answers hanswers] at hsend
  cases hsend
  rw [← h.oracle, ← h.params] at hanswers
  have hsend := send_of_answers (opc := opc) hanswers
  rw [h.params] at hsend
  exact ⟨_, hsend, h.life, rfl, by simp only [h.oracle], by simp only [h.trace], h.ends⟩

theorem Agree.sendData {s s' : State} (h : Agree s s') (bytes : List Byte) :
    AgreeReply (sendData bytes s) (sendData bytes s') := by
  intro r t hdata
  obtain ⟨up, x, down, hanswers⟩ := exists_dataAnswers hdata
  rw [sendData_of_answers hanswers] at hdata
  cases hdata
  rw [← h.oracle] at hanswers
  exact ⟨_, sendData_of_answers hanswers, h.life, h.params, by simp only [h.oracle], by simp only [h.trace], h.ends⟩

theorem Agree.writeRegion {s s' : State} (h : Agree s s') (w : Window) (buf : List Byte) (size : Nat) :
    AgreeReply (writeRegion w buf size s) (writeRegion w buf size s') := by
  intro r t hregion
  obtain ⟨r₁, s₁, r₂, s₂, hrow, hcol, hdata⟩ := writeRegion_cases hregion
  obtain ⟨s₁', hrow', h₁⟩ := h.send _ _ _ _ hrow
  obtain ⟨s₂', hcol', h₂⟩ := h₁.send _ _ _ _ hcol
  obtain ⟨t', hdata', ht⟩ := h₂.sendData _ _ _ hdata
  refine ⟨t', ?_, ht⟩
  simp only [Machine.writeRegion, h.params, hrow', h₁.params, hcol', h₂.oracle, hdata']

/-- A body of `initDevice` that comes back was answered, and failed or found everything. -/
theorem exists_initAnswers {cfg : InstanceConfig} {s t : State} {r : Result} (h : acquireAll cfg s = some (r, t)) :
    (∃ b g c, InitAnswers s.oracle b g c ∧ (b = none ∨ g = none ∨ c = .err)) ∨
      ∃ b g, InitAnswers s.oracle (some b) (some g) .ok := by
  obtain ⟨hb, -⟩ | ⟨b, hb, ⟨hg, -⟩ | ⟨g, hg, ⟨hc, -⟩ | ⟨hc, -⟩⟩⟩ := acquireAll_cases h
  · exact .inl ⟨none, none, .ok, ⟨hb, fun hfound => absurd rfl hfound⟩, .inl rfl⟩
  · exact .inl ⟨some b, none, .ok, ⟨hb, fun _ => ⟨hg, fun hfound => absurd rfl hfound⟩⟩, .inr (.inl rfl)⟩
  · exact .inl ⟨some b, some g, .err, ⟨hb, fun _ => ⟨hg, fun _ => hc⟩⟩, .inr (.inr rfl)⟩
  · exact .inr ⟨b, g, hb, fun _ => ⟨hg, fun _ => hc⟩⟩

theorem Agree.acquireAll {s s' : State} (h : Agree s s') (cfg : InstanceConfig) :
    AgreeReply (acquireAll cfg s) (acquireAll cfg s') := by
  intro r t hinit
  obtain ⟨b, g, c, hanswers, hfail⟩ | ⟨b, g, hanswers⟩ := exists_initAnswers hinit
  · rw [acquireAll_of_failed cfg hanswers hfail] at hinit
    cases hinit
    rw [← h.oracle] at hanswers
    exact ⟨_, acquireAll_of_failed cfg hanswers hfail, h.life, h.params, by simp only [h.oracle],
      by simp only [h.trace], h.ends⟩
  · rw [acquireAll_of_found cfg hanswers] at hinit
    cases hinit
    rw [← h.oracle] at hanswers
    exact ⟨_, acquireAll_of_found cfg hanswers, rfl, h.params, by simp only [h.oracle], by simp only [h.trace], h.ends⟩

/-! ### Instructions -/

theorem agreeNext_next {s s' : State} (h : Agree s s') : AgreeNext (.next s) (.next s') := by
  rintro t ⟨⟩
  exact ⟨s', rfl, h⟩

theorem agreeNext_finish {o o' : Option (Reply × State)} (h : AgreeReply o o') : AgreeNext (finish o) (finish o') := by
  intro t ht
  obtain ⟨r, u, ho, rfl⟩ := finish_eq_next ht
  obtain ⟨u', ho', hu⟩ := h r u ho
  exact ⟨_, by rw [ho']; rfl, hu.ret _⟩

theorem Agree.whenInitialized {s s' : State} (h : Agree s s') {go go' : Host.Outcome State Fault Refusal}
    (hgo : AgreeNext go go') : AgreeNext (whenInitialized s go) (whenInitialized s' go') := by
  cases hlife : s.life with
  | uninitialized =>
    rw [whenInitialized_uninitialized hlife, whenInitialized_uninitialized (h.life.trans hlife)]
    exact agreeNext_next (h.refuse _)
  | initialized => rwa [whenInitialized_initialized hlife, whenInitialized_initialized (h.life.trans hlife)]

/-- A record that is written alike in both states may follow. -/
theorem AgreeReply.map_onOk {o o' : Option (Reply × State)} (h : AgreeReply o o') {f : State → State}
    (hf : ∀ {u u'}, Agree u u' → Agree (f u) (f u')) : AgreeReply (o.map (onOk f)) (o'.map (onOk f)) := by
  intro r t ht
  obtain ⟨a, ho, ha⟩ := Option.map_eq_some_iff.1 ht
  obtain ⟨u, rfl, hwrite⟩ := onOk_eq ha
  obtain ⟨u', rfl, hu⟩ := h r u ho
  obtain ⟨rfl, rfl⟩ | ⟨rfl, rfl⟩ := hwrite
  · exact ⟨f u', rfl, hf hu⟩
  · exact ⟨u', rfl, hu⟩

theorem Agree.exec_wireParts {s s' : State} (h : Agree s s') {i : Instr} {opc : Byte} {ps : List Byte}
    (hi : wireParts s.params i = some (opc, ps)) : AgreeNext (exec i s) (exec i s') := by
  rw [exec_of_wireParts hi, exec_of_wireParts (h.params ▸ hi)]
  exact h.whenInitialized (agreeNext_finish (h.send opc ps))

theorem Agree.exec_recordedBy {s s' : State} (h : Agree s s') {i : Instr} {opc : Byte} {ps : List Byte}
    {f : State → State} (hi : recordedBy s.params i = some (opc, ps, f))
    (hf : ∀ {u u'}, Agree u u' → Agree (f u) (f u')) : AgreeNext (exec i s) (exec i s') := by
  rw [exec_of_recordedBy hi, exec_of_recordedBy (h.params ▸ hi)]
  exact h.whenInitialized (agreeNext_finish ((h.send opc ps).map_onOk hf))

theorem Agree.exec_answerOf {s s' : State} (h : Agree s s') {i : Instr} {r : Result}
    (hi : answerOf s.params i = some r) : AgreeNext (exec i s) (exec i s') := by
  rw [exec_of_answerOf hi, exec_of_answerOf (h.params ▸ hi)]
  exact agreeNext_next (h.ret r)

theorem Agree.exec_initDevice {s s' : State} (h : Agree s s') (cfg : InstanceConfig) :
    AgreeNext (exec (.initDevice cfg) s) (exec (.initDevice cfg) s') := by
  intro t ht
  cases hlife : s.life with
  | initialized =>
    rw [exec_initDevice_initialized hlife] at ht
    rw [exec_initDevice_initialized (h.life.trans hlife)]
    exact agreeNext_next (h.refuse _) t ht
  | uninitialized =>
    cases hinit : Machine.acquireAll cfg s with
    | none => simp [exec, execInitialize, hlife, hinit] at ht
    | some a =>
      obtain ⟨r, u⟩ := a
      obtain ⟨u', hinit', hu⟩ := h.acquireAll cfg r u hinit
      rw [exec_initDevice_uninitialized hlife hinit] at ht
      rw [exec_initDevice_uninitialized (h.life.trans hlife) hinit']
      exact agreeNext_next (hu.ret r) t ht

theorem Agree.exec_write {s s' : State} (h : Agree s s') (x y : HalfWord) (r : WriteRegion) :
    AgreeNext (exec (.write x y r) s) (exec (.write x y r) s') := by
  refine h.whenInitialized ?_
  rw [h.params]
  split
  · exact agreeNext_next (h.refuse _)
  · split
    · exact agreeNext_next (h.refuse _)
    · split
      · exact agreeNext_finish (h.writeRegion _ _ _)
      · exact agreeNext_next (h.refuse _)

theorem Agree.exec {s s' : State} (h : Agree s s') (i : Instr) : AgreeNext (exec i s) (exec i s') := by
  cases i with
  | colAddr cs ce => exact h.exec_wireParts rfl
  | rowAddr rs re => exact h.exec_wireParts rfl
  | remap ps => exact h.exec_wireParts rfl
  | displayOn => exact h.exec_wireParts rfl
  | displayOff => exact h.exec_wireParts rfl
  | contrast v => exact h.exec_wireParts rfl
  | data bytes => exact h.whenInitialized (agreeNext_finish (h.sendData bytes))
  | initDevice cfg => exact h.exec_initDevice cfg
  | unblank => exact h.exec_recordedBy rfl fun hu => hu.setDisplay .on
  | blank => exact h.exec_recordedBy rfl fun hu => hu.setDisplay .off
  | setContrast v => exact h.exec_recordedBy rfl fun hu => hu.setContrast v
  | write x y r => exact h.exec_write x y r
  | read args => exact h.exec_answerOf rfl
  | getFramebuffer => exact h.exec_answerOf rfl
  | setBrightness args => exact h.exec_answerOf rfl
  | getCapabilities => exact h.exec_answerOf rfl
  | setPixelFormat f => exact h.exec_answerOf rfl
  | setOrientation args => exact h.exec_answerOf rfl

end Sys2Proof.Machine

namespace Sys2Proof.Proofs
open Sys2Proof.Machine

/-- Settles O48: the two states agree, and so do the states after the instruction. -/
theorem recordsDoNotInterfere : Obligations.RecordsDoNotInterfere := by
  intro i s t c d l m b g hexec
  have hagree : Agree s { s with contrast := c, displayOn := d, dc := l, refused := m, bus := b, gpio := g } :=
    ⟨rfl, rfl, rfl, rfl, rfl⟩
  obtain ⟨t', hexec', ht⟩ := hagree.exec i t hexec
  exact ⟨t', hexec', ht.trace, ht.ends, ht.oracle, ht.life⟩

end Sys2Proof.Proofs
end

section
/-! PROOFS. What a call can end with (R160 to R168): the error kind of each operation, and the refusal of a call that
overlaps another. -/
namespace Sys2Proof.Machine
open Sys2Proof.Spec

theorem ioResult_eq_err {r : Reply} {k : ErrorKind} (h : ioResult r = .err k) : k = .ioError := by
  cases r <;> cases h
  rfl

theorem errorOf_of_sentBy {p : Params} {i : Instr} {c : Byte × List Byte} (h : sentBy p i = some c) :
    errorOf i = some .ioError := by
  cases i <;> cases h <;> rfl

theorem errorOf_of_recordedBy {p : Params} {i : Instr} {c : Byte × List Byte × (State → State)}
    (h : recordedBy p i = some c) : errorOf i = some .ioError := by
  cases i <;> cases h <;> rfl

theorem formatResult_eq_err {f : PixelFormat} {k : ErrorKind} (h : formatResult f = .err k) : k = .unsupportedFormat := by
  cases f <;> cases h
  rfl

/-- R132 to R137: an operation that touches no collaborator answers with an error of its own kind or with none. -/
theorem errorOf_of_answerOf {p : Params} {i : Instr} {k : ErrorKind} (h : answerOf p i = some (.err k)) :
    errorOf i = some k := by
  cases i with
  | setPixelFormat f =>
    obtain rfl := formatResult_eq_err (Option.some.inj h)
    rfl
  | _ => cases h <;> rfl

/-- The end that a call notes tells its result. -/
theorem ret_ends_eq_iff {s u : State} (h : u.ends = s.ends) {r r' : Result} :
    (u.ret r).ends = s.ends ++ [.returned r'] ↔ r = r' := by
  simp [h]

/-- R161, for the operations whose result is that of their last checked transfer. -/
theorem errorOf_of_ioResult {s u : State} {i : Instr} {r : Reply} {k : ErrorKind} (hi : errorOf i = some .ioError)
    (hu : OnlyWire s u) (h : (u.ret (ioResult r)).ends = s.ends ++ [.returned (.err k)]) : errorOf i = some k := by
  obtain rfl := ioResult_eq_err ((ret_ends_eq_iff hu.ends).1 h)
  exact hi

/-- R161: of the ways in which an instruction runs, each that notes an error notes the kind of its row. -/
theorem Ran.errorOf_eq {s t : State} {i : Instr} {k : ErrorKind} (h : Ran s i t)
    (hends : t.ends = s.ends ++ [.returned (.err k)]) : errorOf i = some k := by
  cases h with
  | refused i why h => simp at hends
  | answered i r h =>
    obtain rfl := (ret_ends_eq_iff rfl).1 hends
    exact errorOf_of_answerOf h
  | acquired cfg r u hl h =>
    obtain ⟨rfl, hcalls⟩ | ⟨rfl, b, g, v, hcalls, rfl⟩ := acquireAll_setup h
    · cases (ret_ends_eq_iff hcalls.onlyWire.ends).1 hends
      rfl
    · cases (ret_ends_eq_iff hcalls.onlyWire.ends).1 hends
  | sent i opc ps r u hl hi h => exact errorOf_of_ioResult (errorOf_of_sentBy hi) (send_onlyWire h) hends
  | recorded i opc ps f u hl hi h =>
    have hf : (f u).ends = u.ends := by
      obtain ⟨-, d, rfl⟩ | ⟨v, -, rfl⟩ := recordedBy_cases hi <;> rfl
    cases (ret_ends_eq_iff (hf.trans (send_onlyWire h).ends)).1 hends
  | unrecorded i opc ps f u hl hi h =>
    exact errorOf_of_ioResult (r := .err) (errorOf_of_recordedBy hi) (send_onlyWire h) hends
  | data bs r u hl h => exact errorOf_of_ioResult rfl (sendData_onlyWire h) hends
  | written x y reg buf r u hl hb hn hw h => exact errorOf_of_ioResult rfl (writeRegion_onlyWire h) hends

theorem fetch_of_overlapping {s : State} {r : Request} {rest : List Request} (hbench : s.bench = none)
    (hinbox : s.inbox = r :: rest) (hoverlap : r.overlaps = true) : fetch s = .overlapping := by
  simp [fetch, hbench, hinbox, hoverlap]

theorem step_of_overlapping {s : State} (h : fetch s = .overlapping) :
    step s = .next (s.taken.refuse .concurrentCall) := by
  simp [step, h]

end Sys2Proof.Machine

namespace Sys2Proof.Proofs
open Sys2Proof.Machine

/-- Settles O43, by the ways in which an instruction runs. -/
theorem errorsByOperation : Obligations.ErrorsByOperation := fun _ _ _ _ h => (exec_ran h).errorOf_eq

/-- Settles O5: the call is fetched as overlapping, taken up and refused. -/
theorem overlappingCallIsRefused : Obligations.OverlappingCallIsRefused := by
  intro s r rest hbench hinbox hoverlap
  rw [step_of_overlapping (fetch_of_overlapping hbench hinbox hoverlap), taken_of_call hbench hinbox]
  rfl

end Sys2Proof.Proofs
end

section
/-! PROOFS. A call that never returns (R190): an operation whose first collaborator call it is stays stuck in it. -/
namespace Sys2Proof.Machine
open Sys2Proof.Spec

theorem send_of_never {s : State} (h : s.oracle.answer 0 = .never) (opc : Byte) (ps : List Byte) :
    send opc ps s = none := by
  simp only [send, gpioSet_eq_none.2 h]

theorem sendData_of_never {s : State} (h : s.oracle.answer 0 = .never) (bytes : List Byte) :
    sendData bytes s = none := by
  simp only [sendData, gpioSet_eq_none.2 h]

theorem writeRegion_of_never {s : State} (h : s.oracle.answer 0 = .never) (w : Window) (buf : List Byte) (n : Nat) :
    writeRegion w buf n s = none := by
  simp only [writeRegion, send_of_never h]

theorem acquireAll_of_never {s : State} (h : s.oracle.answer 0 = .never) (cfg : InstanceConfig) :
    acquireAll cfg s = none := by
  simp only [acquireAll, getBusHandle_eq_none.2 h]

theorem exec_initDevice_of_never {s : State} (hlife : s.life = .uninitialized) (h : s.oracle.answer 0 = .never)
    (cfg : InstanceConfig) : exec (.initDevice cfg) s = .fault .collaboratorNeverReturns := by
  simp only [exec, execInitialize, hlife, acquireAll_of_never h]

theorem exec_of_wireParts_of_never {s : State} {i : Instr} {opc : Byte} {ps : List Byte}
    (hparts : wireParts s.params i = some (opc, ps)) (hlife : s.life = .initialized)
    (h : s.oracle.answer 0 = .never) : exec i s = .fault .collaboratorNeverReturns := by
  rw [exec_of_wireParts hparts, whenInitialized_initialized hlife, send_of_never h]
  rfl

theorem exec_data_of_never {s : State} (hlife : s.life = .initialized) (h : s.oracle.answer 0 = .never)
    (bytes : List Byte) : exec (.data bytes) s = .fault .collaboratorNeverReturns := by
  change whenInitialized s (finish (sendData bytes s)) = _
  rw [whenInitialized_initialized hlife, sendData_of_never h]
  rfl

theorem exec_of_recordedBy_of_never {s : State} {i : Instr} {opc : Byte} {ps : List Byte} {f : State → State}
    (hrecord : recordedBy s.params i = some (opc, ps, f)) (hlife : s.life = .initialized)
    (h : s.oracle.answer 0 = .never) : exec i s = .fault .collaboratorNeverReturns := by
  rw [exec_of_recordedBy hrecord, whenInitialized_initialized hlife, send_of_never h]
  rfl

/-- The wire rows are the commands (R85 to R90) and DATA (R91). -/
theorem wireParts_or_data_of_isWire {i : Instr} (h : isWire i = true) (p : Params) :
    (∃ opc ps, wireParts p i = some (opc, ps)) ∨ ∃ bytes, i = .data bytes := by
  cases i with
  | data bytes => exact .inr ⟨bytes, rfl⟩
  | colAddr | rowAddr | remap | displayOn | displayOff | contrast => exact .inl ⟨_, _, rfl⟩
  | _ => cases h

theorem exec_isWire_of_never {s : State} {i : Instr} (hwire : isWire i = true) (hlife : s.life = .initialized)
    (h : s.oracle.answer 0 = .never) : exec i s = .fault .collaboratorNeverReturns := by
  obtain ⟨opc, ps, hparts⟩ | ⟨bytes, rfl⟩ := wireParts_or_data_of_isWire hwire s.params
  · exact exec_of_wireParts_of_never hparts hlife h
  · exact exec_data_of_never hlife h bytes

theorem exec_write_of_never {s : State} {x y : HalfWord} {r : WriteRegion} {buf : List Byte}
    (haccepted : Accepted s x y r buf) (h : s.oracle.answer 0 = .never) :
    exec (.write x y r) s = .fault .collaboratorNeverReturns := by
  rw [exec_write_accepted haccepted, writeRegion_of_never h]
  rfl

theorem hangs_of_exec_eq_fault {i : Instr} {s : State} {f : Fault} (h : exec i s = .fault f) : Hangs 9 s := by
  have hend := exec_nextOrHung i s
  rw [h] at hend
  cases hend with
  | hung hhangs => exact hhangs

theorem exec_ne_refused (i : Instr) (s : State) (r : Refusal) : exec i s ≠ .refused r := by
  intro h
  have hend := exec_nextOrHung i s
  rw [h] at hend
  cases hend

end Sys2Proof.Machine

namespace Sys2Proof.Proofs
open Sys2Proof.Machine

/-- Settles O45: the outcomes are those of `exec_nextOrHung`, and each operation is stuck when its first call is. -/
theorem onlyAHungCallStops : Obligations.OnlyAHungCallStops := by
  refine ⟨fun i s f => hangs_of_exec_eq_fault, exec_ne_refused,
    fun s cfg hlife hnever => exec_initDevice_of_never hlife hnever cfg, fun s i hi hlife hnever => ?_,
    fun s x y r buf => exec_write_of_never⟩
  obtain hwire | rfl | rfl | ⟨v, rfl⟩ := hi
  · exact exec_isWire_of_never hwire hlife hnever
  · exact exec_of_recordedBy_of_never rfl hlife hnever
  · exact exec_of_recordedBy_of_never rfl hlife hnever
  · exact exec_of_recordedBy_of_never rfl hlife hnever

end Sys2Proof.Proofs
end

section
/-! PROOFS. The level of each transfer (R185): commands go out in command mode or, after a failed `GpioSet`, at an unknown
level (R83), and a payload in data mode. -/
namespace Sys2Proof.Machine
open Sys2Proof.Spec

/-- The table of R82 with the level of R83 by its name. -/
theorem sendEvents_eq (checked : Bool) (opc : Byte) (ps : List Byte) (g x q : Reply) :
    sendEvents checked opc ps g x q =
      if checked = true ∧ g = .err then [.setDC .low g]
      else if x = .ok ∧ ps ≠ [] then [.setDC .low g, .xfer (sendDc g) [opc] x, .xfer (sendDc g) ps q]
      else [.setDC .low g, .xfer (sendDc g) [opc] x] :=
  rfl

/-- R81 to R83: in every row of the table the transfers are those of one command. -/
theorem isCommand_of_mem_sendEvents {checked : Bool} {opc : Byte} {ps b : List Byte} {g x q a : Reply} {d : Dc}
    (h : Event.xfer d b a ∈ sendEvents checked opc ps g x q) : IsCommand opc ps d b := by
  have hlevel : sendDc g ≠ .data := dcAfter_low g ▸ dcAfter_low_ne_data g
  rw [sendEvents_eq] at h
  split at h
  · simp at h
  · split at h
    · rename_i hps
      obtain ⟨rfl, rfl, -⟩ | ⟨rfl, rfl, -⟩ := by simpa using h
      · exact ⟨hlevel, .inl rfl⟩
      · exact ⟨hlevel, .inr ⟨rfl, hps.2⟩⟩
    · obtain ⟨rfl, rfl, -⟩ := by simpa using h
      exact ⟨hlevel, .inl rfl⟩

/-- R185: an instruction without a payload makes no transfer in data mode. -/
theorem Ran.transfers_ne_data {s t : State} {i : Instr} (h : Ran s i t) (hdata : ∀ bytes, i ≠ .data bytes)
    (hwrite : ∀ x y r, i ≠ .write x y r) : Transfers (fun d _ => d ≠ .data) s t := by
  cases h with
  | refused i why h => exact .of_eq rfl
  | answered i r h => exact .of_eq rfl
  | acquired cfg r u hl h => exact (acquireAll_transfers h).congr rfl
  | sent i opc ps r u hl hi h => exact ((send_transfers h).mono fun d b hb => hb.1).congr rfl
  | recorded i opc ps f u hl hi h =>
    exact ((send_transfers h).mono fun d b hb => hb.1).congr (recordedBy_trace hi u)
  | unrecorded i opc ps f u hl hi h => exact ((send_transfers h).mono fun d b hb => hb.1).congr rfl
  | data bytes r u hl h => exact absurd rfl (hdata bytes)
  | written x y reg buf r u hl hb hn hw h => exact absurd rfl (hwrite x y reg)

/-- R91: DATA transfers its payload, in data mode. -/
theorem data_transfers {s t : State} {bytes : List Byte} (h : exec (.data bytes) s = .next t) :
    Transfers (fun d b => d = .data ∧ b = bytes) s t := by
  cases exec_ran h with
  | refused i why hi => exact .of_eq rfl
  | answered i res hi => exact .of_eq rfl
  | sent i opc ps res u hl hi hsend => cases hi
  | recorded i opc ps f u hl hi hsend => cases hi
  | unrecorded i opc ps f u hl hi hsend => cases hi
  | data bytes res u hl hsend => exact (sendData_transfers hsend).congr rfl

end Sys2Proof.Machine

namespace Sys2Proof.Proofs
open Sys2Proof.Machine

/-- Settles O46. The events of an accepted `write` are those of O26: of two commands, and of a payload phase. -/
theorem discriminatorSequencing : Obligations.DiscriminatorSequencing := by
  refine ⟨fun i s t evs hdata hwrite h htrace b a hmem =>
      ((exec_ran h).transfers_ne_data hdata hwrite).of_mem htrace hmem rfl,
    fun s t bs evs h htrace d b a => (data_transfers h).of_mem htrace,
    fun s t x y r buf evs haccepted h htrace => ?_⟩
  obtain ⟨g₁, x₁, q₁, g₂, x₂, q₂, up, xd, down, -, -, -, hevents, -⟩ :=
    addressingFailuresAreSwallowed s t x y r buf haccepted h
  rw [htrace, List.append_assoc, List.append_assoc, List.append_cancel_left_eq, ← List.append_assoc,
    ← List.length_append] at hevents
  refine ⟨_, up, xd, down, hevents, fun d b a hmem => ?_⟩
  obtain hrow | hcol := List.mem_append.1 hmem
  · obtain ⟨hd, hopc | ⟨hps, -⟩⟩ := isCommand_of_mem_sendEvents hrow
    · exact ⟨hd, .inl hopc⟩
    · exact ⟨hd, .inr (.inl hps)⟩
  · obtain ⟨hd, hopc | ⟨hps, -⟩⟩ := isCommand_of_mem_sendEvents hcol
    · exact ⟨hd, .inr (.inr (.inl hopc))⟩
    · exact ⟨hd, .inr (.inr (.inr hps))⟩

end Sys2Proof.Proofs
end

section
/-! PROOFS. Reset (R180). -/
namespace Sys2Proof.Proofs
open Sys2Proof.Machine

/-- Settles O1: the ten fields of `State.resetWith`, of which the reset state is an instance. -/
theorem resetHoldsTheSpecValues : Obligations.ResetHoldsTheSpecValues :=
  ⟨fun _ _ => ⟨rfl, rfl, rfl, rfl, rfl, rfl, rfl, rfl, rfl, rfl⟩, _, _, rfl⟩

end Sys2Proof.Proofs
end
